-- ==== Sys2Proof/Word.lean ====
section
/-! DEFINITION. The two word sizes of the W340's attachments. -/
namespace Sys2Proof

/-- A byte of a cycle link frame (R170, R171). -/
abbrev Byte := BitVec 8

/-- A word of the 16-bit management port (spec/00_scope.md section 2). -/
abbrev Word := BitVec 16

end Sys2Proof
end

