-- ==== Sys2Proof/Syntax.lean ====
section
/-! DEFINITION. The commands the W340 takes: one constructor of `Instr` for each row of
spec/opcode_table.json. A management command carries its parameter words in the order of the table
of spec/11 section 11.3, a cycle link command its TAG and its payload fields in the order of
spec/10 section 10.3. -/
namespace Sys2Proof

/-- The three distribution feeds (spec/00_scope.md section 5). -/
inductive Feed where
  | a
  | b
  | c
deriving DecidableEq, Repr

/-- Polarity of an edge, a crossing or a half-cycle: positive for a rising edge (R1). -/
inductive Polarity where
  | positive
  | negative
deriving DecidableEq, Repr

/-- Which of two takers of a mains-state change comes first: R58 leaves open whether the MTU's
FEED_STATE notice is assembled before or after the sequencer takes the change. -/
inductive ChangeOrder where
  | sequencerFirst
  | noticeFirst
deriving DecidableEq, Repr

/-- Which of the Map Store and the Link Supervisor takes a beacon boundary first: R152 gives the
outcome of both orders. -/
inductive BoundaryOrder where
  | storeFirst
  | supervisorFirst
deriving DecidableEq, Repr

/-- At the END of a MAP_DATA frame, whether the claim is released (and a waiting plan job published)
before the transmitter chooses its next frame, or after: R184 gives the outcome of both orders. -/
inductive EndOrder where
  | releaseFirst
  | chooseFirst
deriving DecidableEq, Repr

/-- Whether a management command whose last word has been written has completed before anything else
is taken, or stays EXECUTING: the manual gives the execution no length (R187). -/
inductive CompletionTime where
  | atOnce
  | later
deriving DecidableEq, Repr

/-- The class of a received code group (R170). -/
inductive CodeGroup where
  | data (b : Byte)
  | startSym
  | endSym
  | idleSym
  | invalid
deriving DecidableEq, Repr

/-- A code group that is no byte symbol. -/
inductive ControlGroup where
  | startSym
  | endSym
  | idleSym
  | invalid
deriving DecidableEq, Repr

/-- Why a received frame is discarded (the list of R171, with R170's invalid code group, and step 1
of R175). -/
inductive Discard where
  | cutShort (by_ : ControlGroup)
  | endMissing (by_ : ControlGroup)
  | overlong
  | badCrc
  | badComplement
  | slotOccupied
deriving DecidableEq, Repr

/-- The two ports whose writes are ignored (R188). -/
inductive DeadPort where
  | port2
  | port3
deriving DecidableEq, Repr

/-- The commands of the W340, one for each row of spec/opcode_table.json, in the table's order. -/
inductive Instr where
  | deviceReset
  | mainsEdge (f : Feed) (polarity : Polarity) (order : ChangeOrder)
  | silenceDeadlineExpiry (f : Feed) (order : ChangeOrder)
  | acceptanceWindowExpiry (f : Feed) (order : ChangeOrder)
  | origin (f : Feed) (order : BoundaryOrder)
  | zoneEvent (f : Feed)
  | windowStart (f : Feed)
  | switchCompletion
  | feedConfigure (feed offset beaconLen address count b1 b2 b3 b4 b5 : Word)
  | notchSet (feed w1 w2 w3 w4 w5 w6 : Word)
  | seqStart (feed : Word)
  | seqStop (feed : Word)
  | feedRestart (feed : Word)
  | windowWrite (feed slot half phase kind target : Word)
  | windowCount (feed count : Word)
  | windowRead (feed role slot : Word)
  | scheduleActivate (feed countdown : Word)
  | scheduleCancel (feed : Word)
  | stationAdd (feed address : Word)
  | stationRemove (station : Word)
  | stationRead (station : Word)
  | streamCreate (transmitter receiver : Word)
  | streamDelete (stream : Word)
  | streamRead (stream : Word)
  | linkSet (link margin threshold : Word)
  | linkRead (link : Word)
  | mapRead (link role zone : Word)
  | planNow (link : Word)
  | channelRead (link zone block : Word)
  | positionRead (feed : Word)
  | eventRead
  | eventMask (mask : Word)
  | unknownCommand (code : Byte) (params : List Word)
  | paramWrite (word : Word) (time : CompletionTime)
  | statusRead
  | resultRead
  | ignoredWrite (port : DeadPort) (word : Word)
  | mapFetch (f : Feed) (tag link version zone : Byte)
  | measureOpen (f : Feed) (tag link zone firstBlock blocks : Byte)
  | measureBlock (f : Feed) (tag sequence : Byte) (values : Vector Byte 8)
  | measureAbort (f : Feed) (tag : Byte)
  | deliveryReport (f : Feed) (tag link zone : Byte) (ok failed : Word) (flags : Byte)
  | heard (f : Feed) (tag address : Byte)
  | positionQuery (f : Feed) (tag : Byte)
  | unknownFrame (f : Feed) (tag type : Byte) (payload : List Byte)
  | frameDiscarded (f : Feed) (why : Discard)
  | lossDeadlineExpiry (f : Feed)
  | gapDeadlineExpiry (f : Feed)
  | frameEndSent (f : Feed) (order : EndOrder)
  | foldJobTake
  | foldComplete
  | planJobTake
  | planComputeEnd
  | symbolReceived (f : Feed) (group : CodeGroup)
  | commandWordWrite (word : Word) (time : CompletionTime)
deriving DecidableEq, Repr

end Sys2Proof
end

