-- ==== Sys2Proof/Machine/Tables.lean ====
section
/-! DEFINITION. The two numbered tables a command or a frame is judged against before its owner sees
it: the management commands (spec/11 section 11.3) and the modem's frame types (spec/10 section 10.3). -/
namespace Sys2Proof.Machine

/-- The management commands: code, and count of parameter words (spec/11 section 11.3). -/
def commandTable : List (Nat × Nat) :=
  [(0x01, 10), (0x02, 7), (0x03, 1), (0x04, 1), (0x05, 1),
   (0x10, 6), (0x11, 2), (0x12, 3), (0x13, 2), (0x14, 1),
   (0x20, 2), (0x21, 1), (0x22, 1), (0x23, 2), (0x24, 1), (0x25, 1),
   (0x30, 3), (0x31, 1), (0x32, 3), (0x33, 1), (0x34, 3),
   (0x40, 1), (0x50, 0), (0x51, 1)]

/-- R187: a code and count that are handed to an owner. -/
def commandKnown (code count : Nat) : Bool := commandTable.contains (code, count)

/-- The modem's command frames: type, and payload length (spec/10 section 10.3). -/
def frameTable : List (Nat × Nat) :=
  [(0x11, 3), (0x12, 4), (0x13, 9), (0x14, 0), (0x15, 7), (0x16, 1), (0x17, 0)]

/-- R175 step 2: a type and length that are taken as a command. -/
def frameKnown (type length : Nat) : Bool := frameTable.contains (type, length)

end Sys2Proof.Machine
end

