-- ==== Sys2Proof/WellFormed.lean ====
section
/-! DEFINITION. Which terms of `Instr` stand for a command of the table. The operand types already
bound every number; what is left are the two rows whose commands are known by being in no table, and
the discard reasons that contradict themselves. -/
namespace Sys2Proof

/-- A frame that lacks its END is ended by some other group (R171). -/
def Discard.wellFormed : Discard → Bool
  | .endMissing .endSym => false
  | _ => true

/-- A command of the table: an UNKNOWN_COMMAND announces at most 255 words and is in no row of the
command table (R186, R187); an UNKNOWN_FRAME has at most 255 payload bytes and is in no row of the
frame table (R171, R175). -/
def Instr.wellFormed : Instr → Bool
  | .unknownCommand code params =>
      params.length ≤ 255 && !Machine.commandKnown code.toNat params.length
  | .unknownFrame _ _ type payload =>
      payload.length ≤ 255 && !Machine.frameKnown type.toNat payload.length
  | .frameDiscarded _ why => why.wellFormed
  | _ => true

end Sys2Proof
end

