-- ==== Sys2Proof/Decode.lean ====
section
/-! DEFINITION. The words of the command table. spec/opcode_table.json gives no row any bits: the
commands of the W340 are events at its pins, links and ports, not words fetched from a memory, so no
word spells one. (The words a management command is written in are taken by COMMAND_WORD_WRITE and
PARAM_WRITE, the bytes of a frame by SYMBOL_RECEIVED.) -/
namespace Sys2Proof

/-- The command a word of the table's bits spells: none, since no row gives bits. -/
def decodeTableWord (_nbits _w : Nat) : Option Instr := none

end Sys2Proof
end

