-- ==== Sys2Proof/Config.lean ====
section
/-! DEFINITION. The fixed constants of the W340, and the two free values of the model. -/
namespace Sys2Proof.Config

/-- Lower end of the acceptance band, in ticks (spec/01 section 1.1). -/
def bandLow : Nat := 187500

/-- Upper end of the acceptance band, in ticks (spec/01 section 1.1). -/
def bandHigh : Nat := 275000

/-- Silence in ACQUIRING after which the mains is lost (R2, R3). -/
def silenceTicks : Nat := 550000

/-- Settling time of the panel driver's relays (R66). -/
def switchTicks : Nat := 2500

/-- A grant later than this after its window's start is LATE (R74). -/
def lateTicks : Nat := 2500

/-- Gap between the blocks of a report after which it is abandoned (R98). -/
def gapTicks : Nat := 25000

/-- Silence on a cycle link after which it is DOWN (R174). -/
def lossTicks : Nat := 100000

/-- Ticks for which one code group occupies the line (R170). -/
def symbolTicks : Nat := 4

/-- Entries of a timing or a general queue (R169). -/
def noticeQueueSize : Nat := 8

/-- Entries of the event queue ahead of an EVENTS_LOST marker (R191). -/
def eventQueueRoom : Nat := 15

/-- Largest duration a WINDOW notice holds (R26). -/
def durationCap : Nat := 16777215

/-- Largest value of a 16-bit saturating count (R138, R191). -/
def countCap : Nat := 65535

/-- DESIGN CHOICE (notes/assumptions/2.md), safe. The manual lets either of two
events of one tick be taken first, and an idling block takes the one this value, which nothing in
Lean can evaluate, picks. It is applied to the counter `State.choices`. -/
opaque freeChoice : Nat → Nat

/-- DESIGN CHOICE (notes/assumptions/4.md), safe. The value of the second result word of POSITION_READ for a
period estimate that does not fit in a 16-bit word: R61 gives P one word, and no rule says which part
of P it holds. -/
opaque periodWord : Nat → Word

end Sys2Proof.Config
end

