-- ==== Sys2Proof/Machine/State.lean ====
section
/-! DEFINITION. The state of the W340, block by block in the order of the manual's chapters, the
reasons a step can stop, and the state after device reset. Everything is plain data.
INVENTORY.md, heading State, lists each field with its rule and reset value. -/
namespace Sys2Proof.Machine

/-! ### Common shapes -/

/-- One value for each feed. -/
structure PerFeed (α : Type) where
  a : α
  b : α
  c : α
deriving DecidableEq, Repr

/-- The value held for one feed. -/
def PerFeed.get {α : Type} (t : PerFeed α) : Feed → α
  | .a => t.a
  | .b => t.b
  | .c => t.c

/-- The same table with one feed's value replaced. -/
def PerFeed.set {α : Type} (t : PerFeed α) : Feed → α → PerFeed α
  | .a, x => { t with a := x }
  | .b, x => { t with b := x }
  | .c, x => { t with c := x }

/-- The same value for every feed. -/
def PerFeed.all {α : Type} (x : α) : PerFeed α := ⟨x, x, x⟩

/-- A link number (R79). -/
abbrev LinkNo := Fin 128

/-- A station index (R77). -/
abbrev StationIx := Fin 64

/-- A stream number (R90). -/
abbrev StreamNo := Fin 32

/-- A slot of a bank, and so a window index (R22). -/
abbrev SlotNo := Fin 32

/-- A notch mask: bit g set marks carrier group g as notched (R133). -/
abbrev NotchMask := BitVec 96

/-! ### Chapter 1: Mains Timebase Unit -/

/-- Mains state (spec/01 section 1.1). -/
inductive MainsState where
  | absent
  | acquiring
  | locked
  | freeRun
deriving DecidableEq, Repr

/-- Whether a crossing was sensed or synthesised (spec/01 section 1.1). -/
inductive CrossingKind where
  | real
  | synthesised
deriving DecidableEq, Repr

/-- The last crossing, or in ACQUIRING the anchor (spec/01 section 1.1). -/
structure Crossing where
  time : Nat
  polarity : Polarity
  kind : CrossingKind
deriving DecidableEq, Repr

/-- The acceptance window, both ends included (R6). -/
structure AcceptWindow where
  opens : Nat
  closes : Nat
deriving DecidableEq, Repr

/-- The origin scheduled by the last crossing (R11). -/
structure PendingOrigin where
  time : Nat
  polarity : Polarity
  estimate : Nat
deriving DecidableEq, Repr

/-- An origin as it is delivered to the sequencer and read from a valid origin record (R11). -/
structure OriginRecord where
  t0 : Nat
  polarity : Polarity
  estimate : Nat
deriving DecidableEq, Repr

/-- Time and polarity of the origin record while it is valid (R11). -/
structure OriginMark where
  t0 : Nat
  polarity : Polarity
deriving DecidableEq, Repr

/-- A zone event of the current half-cycle still to be delivered (R15, R16, R18). -/
structure ZoneDue where
  zone : Nat
  phase : Nat
  time : Nat
deriving DecidableEq, Repr

/-- What MTU f holds (spec/01 section 1.1). The origin record is `originMark`, none while it is invalid, with
`originEstimate`, its P_o, which R19 gives a value while the record is invalid too. -/
structure Mtu where
  state : MainsState
  period : Nat
  history : List Nat
  last : Option Crossing
  silence : Option Nat
  window : Option AcceptWindow
  deviantRun : Nat
  missRun : Nat
  pendingOrigin : Option PendingOrigin
  originMark : Option OriginMark
  originEstimate : Nat
  offset : Nat
  boundaries : List Nat
  zonesDue : List ZoneDue
deriving DecidableEq, Repr

/-- An MTU after device reset (R19). -/
def Mtu.reset : Mtu where
  state := .absent
  period := 0
  history := []
  last := none
  silence := none
  window := none
  deviantRun := 0
  missRun := 0
  pendingOrigin := none
  originMark := none
  originEstimate := 0
  offset := 0
  boundaries := []
  zonesDue := []

/-! ### Chapters 2 and 3: banks and Cycle Sequencer -/

/-- What a window is for, with its target (R21). -/
inductive WindowKind where
  | beacon
  | shared
  | reserved (stream : StreamNo)
  | quiet
  | probe (station : StationIx)
deriving DecidableEq, Repr

/-- The kind of a window without its target, as notices carry it (R54). -/
inductive KindName where
  | beacon
  | shared
  | reserved
  | quiet
  | probe
deriving DecidableEq, Repr

/-- A window record (R21). -/
structure Window where
  half : Fin 8
  phase : Fin 256
  kind : WindowKind
deriving DecidableEq, Repr

/-- A bank: 32 slots and a window count 0..32 (R22). -/
structure Bank where
  count : Fin 33
  slots : Vector Window 32
deriving DecidableEq, Repr

/-- A bank after device reset: count 0, every slot BEACON at (0, 0) (R42). -/
def Bank.reset : Bank where
  count := 0
  slots := Vector.replicate 32 ⟨0, 0, .beacon⟩

/-- The two banks of a feed (R22). -/
inductive BankNo where
  | b0
  | b1
deriving DecidableEq, Repr

/-- The state of the pending bank; COUNTING carries its countdown (R22). -/
inductive PendingState where
  | edit
  | counting (countdown : Nat)
deriving DecidableEq, Repr

/-- Sequencer state (spec/03 section 3.1). -/
inductive SeqState where
  | stopped
  | waitingSync
  | running
  | held
deriving DecidableEq, Repr

/-- The classes with which the panel driver is claimed (spec/03 section 3.1). -/
inductive DriverClass where
  | soft
  | hard
  | beacon
deriving DecidableEq, Repr

/-- A window's claim class: `none` is the class NONE (R23). -/
abbrev ClaimClass := Option DriverClass

/-- An armed start (R49). -/
structure ArmedStart where
  slot : SlotNo
  time : Nat
deriving DecidableEq, Repr

/-- The half-cycle record of a sequencer (spec/03 section 3.1). -/
structure HalfCycle where
  t0 : Nat
  polarity : Polarity
  estimate : Nat
deriving DecidableEq, Repr

/-- What CSQ f holds, banks included (spec/02 section 2.1, spec/03 section 3.1). -/
structure Csq where
  bank0 : Bank
  bank1 : Bank
  current : BankNo
  pendingState : PendingState
  beaconLen : Nat
  state : SeqState
  beaconCount : Word
  halfIndex : Nat
  currentWindow : Option SlotNo
  armed : List ArmedStart
  heldClaim : Option DriverClass
  halfCycle : HalfCycle
deriving DecidableEq, Repr

/-- A sequencer after device reset (R42, R62). -/
def Csq.reset : Csq where
  bank0 := Bank.reset
  bank1 := Bank.reset
  current := .b0
  pendingState := .edit
  beaconLen := 4
  state := .stopped
  beaconCount := 0
  halfIndex := 0
  currentWindow := none
  armed := []
  heldClaim := none
  halfCycle := ⟨0, .positive, 0⟩

/-! ### Chapter 4: Panel Driver Arbiter -/

/-- Driver state (R63). -/
inductive DriverState where
  | free
  | switching
  | enabled
deriving DecidableEq, Repr

/-- Status of a claim record (R63). -/
inductive ClaimStatus where
  | holding
  | target
  | waiting
deriving DecidableEq, Repr

/-- The claim record of a feed at the PDA (R63). -/
structure ClaimRecord where
  cls : DriverClass
  window : SlotNo
  start : Nat
  status : ClaimStatus
deriving DecidableEq, Repr

/-- The holder of the driver in ENABLED (R63). -/
structure Holder where
  feed : Feed
  cls : DriverClass
deriving DecidableEq, Repr

/-- What the PDA holds (R63). -/
structure Pda where
  driver : DriverState
  connected : Option Feed
  switchAt : Option Nat
  holder : Option Holder
  claims : PerFeed (Option ClaimRecord)
  waiting : List Feed
deriving DecidableEq, Repr

/-- The PDA after device reset (R63). -/
def Pda.reset : Pda where
  driver := .free
  connected := none
  switchAt := none
  holder := none
  claims := PerFeed.all none
  waiting := []

/-! ### Chapter 5: Membership Table -/

/-- The feed and address a MEMBER entry holds (R77). -/
structure Membership where
  feed : Feed
  address : Byte
deriving DecidableEq, Repr

/-- A station entry: `member` is `none` in FREE (R77). -/
structure Station where
  member : Option Membership
  generation : Byte
  refs : Nat
deriving DecidableEq, Repr

/-- Transmitter and receiver of a stream (R90). -/
structure StreamEnds where
  transmitter : StationIx
  receiver : StationIx
deriving DecidableEq, Repr

/-- State of a stream record with what it holds there (R90). -/
inductive StreamState where
  | free
  | active (ends : StreamEnds)
  | suspended (ends : StreamEnds)
deriving DecidableEq, Repr

/-- A stream record (R90). -/
structure Stream where
  state : StreamState
  refs : Nat
deriving DecidableEq, Repr

/-- The station table after device reset: three local MEMBERs of address 1, the rest FREE (R96). -/
def stationsReset : Vector Station 64 :=
  (((Vector.replicate 64 ⟨none, 0, 0⟩ : Vector Station 64).set 0 ⟨some ⟨.a, 1⟩, 0, 0⟩).set 1
    ⟨some ⟨.b, 1⟩, 0, 0⟩).set 2 ⟨some ⟨.c, 1⟩, 0, 0⟩

/-! ### Chapters 6 to 9: links, their channel records and map sets -/

/-- A link's grade (R140). -/
inductive Grade where
  | full
  | guarded
  | robust
  | unreachable
deriving DecidableEq, Repr

/-- The cause of a plan job and of a NEXT set (R118, R132). -/
inductive Cause where
  | plan
  | stepUp
  | stepDown
  | notch
deriving DecidableEq, Repr

/-- The Link Supervisor's record of a LIVE link (R138). -/
structure LinkRecord where
  feed : Feed
  generation : Byte
  grade : Grade
  margin : Nat
  threshold : Nat
  ok : Nat
  failed : Nat
  goodRun : Nat
  badRun : Nat
  periods : Nat
  pendingCause : Option Cause
deriving DecidableEq, Repr

/-- Accumulator and seen flag of a carrier group in a zone (R109). -/
structure GroupRecord where
  acc : Nat
  seen : Bool
deriving DecidableEq, Repr

/-- The channel records of a zone of a link (R109). -/
structure ZoneRecord where
  valid : Bool
  sincePlan : Nat
  groups : Vector GroupRecord 96
deriving DecidableEq, Repr

/-- The form of a zone map (R129). -/
inductive MapForm where
  | adaptive
  | robust
deriving DecidableEq, Repr

/-- A zone map: form, repetition, raw capacity and 96 load codes (R155). -/
structure ZoneMap where
  form : MapForm
  repetition : Nat
  rawCapacity : Nat
  codes : Vector (Fin 8) 96
deriving DecidableEq, Repr

/-- A set record (R155). -/
structure MapSet where
  version : BitVec 4
  grade : Grade
  zones : List ZoneMap
deriving DecidableEq, Repr

/-- A NEXT set with its switch countdown (R155). -/
structure NextSet where
  maps : MapSet
  countdown : Nat
deriving DecidableEq, Repr

/-- A LIVE link at its three owners: the Link Supervisor's record, the Channel Planner's channel
records zone by zone, and the Map Store's ACTIVE and NEXT sets (R109, R138, R155). -/
structure Link where
  record : LinkRecord
  channel : List ZoneRecord
  active : MapSet
  next : Option NextSet
deriving DecidableEq, Repr

/-- The set a fetch claim names: by its role, or a set kept only for the claim, which is the retired
set of R165 or a set of a removed link. -/
inductive ClaimedSet where
  | active
  | next
  | kept (maps : MapSet)
deriving DecidableEq, Repr

/-- A fetch claim; each cycle link has at most one outstanding (R164). The generation is that of the link it was
placed on, which tells the claim of a removed link from a claim of the link that has taken its number (R165). -/
structure FetchClaim where
  link : LinkNo
  generation : Byte
  zone : Nat
  named : ClaimedSet
deriving DecidableEq, Repr

/-! ### Chapter 6: report buffers, and chapter 7: the Planner -/

/-- The two report buffers of a CLC (R97). -/
inductive BufNo where
  | b0
  | b1
deriving DecidableEq, Repr

/-- The report record of a buffer that is not FREE (R97). -/
structure Report where
  link : LinkNo
  generation : Byte
  zone : Nat
  firstBlock : Nat
  blocks : Nat
  expected : Nat
  values : List Byte
deriving DecidableEq, Repr

/-- A report buffer (R97). -/
inductive Buffer where
  | free
  | filling (r : Report)
  | full (r : Report)
  | folding (r : Report)
deriving DecidableEq, Repr

/-- The report state of a CLC; OPEN names its buffer and holds the gap deadline (R98). -/
inductive ReportState where
  | idle
  | open_ (buf : BufNo) (gap : Nat)
  | removed
deriving DecidableEq, Repr

/-- A reference to a report buffer of the part (R110). -/
structure BufRef where
  feed : Feed
  buf : BufNo
deriving DecidableEq, Repr

/-- A plan queue entry (R118). -/
structure PlanEntry where
  link : LinkNo
  cause : Cause
deriving DecidableEq, Repr

/-- A plan job record: what was taken from the link and its feed at the taking (R116, R122). -/
structure PlanJob where
  link : LinkNo
  cause : Cause
  generation : Byte
  grade : Grade
  margin : Nat
  notch : NotchMask
deriving DecidableEq, Repr

/-- The Planner engine with its job in hand (R116); a plan job carries the zone maps computed. -/
inductive Engine where
  | idle
  | folding (buf : BufRef)
  | planning (job : PlanJob) (zones : List ZoneMap)
  | waitingClaim (job : PlanJob) (zones : List ZoneMap)
deriving DecidableEq, Repr

/-- The Channel Planner's engine and queues (R116). -/
structure Planner where
  engine : Engine
  foldQueue : List BufRef
  urgent : List PlanEntry
  normal : List PlanEntry
deriving DecidableEq, Repr

/-- The Planner after device reset (R116). -/
def Planner.reset : Planner := ⟨.idle, [], [], []⟩

/-! ### Chapter 10: Cycle Link Controller -/

/-- Completion codes (R178). -/
inductive Completion where
  | ok
  | busy
  | badParam
  | noEntry
  | noLink
  | inUse
  | full
  | wrongState
  | staleVersion
  | badSchedule
  | noSchedule
  | badFrame
deriving DecidableEq, Repr

/-- What the full and the compact window notice share (R54, R55). -/
structure WindowInfo where
  half : Fin 8
  phase : Fin 256
  index : SlotNo
  kind : KindName
  transmitter : Option Byte
  receiver : Option Byte
  probe : Option Byte
  skipped : Bool
deriving DecidableEq, Repr

/-- The outcome of a DRIVER notice (R74). -/
inductive DriverOutcome where
  | granted (late : Bool)
  | waiting (other : Option Feed)
  | lost (other : Option Feed)
deriving DecidableEq, Repr

/-- A timing notice, its contents fixed when offered (R180). -/
inductive TimingNotice where
  | beaconStart (count : Word) (period beaconLen zones countdown : Nat)
  | zone (half : Nat) (polarity : Polarity) (zone phase zones : Nat)
  | window (count : Word) (info : WindowInfo) (cls : ClaimClass) (duration : Nat)
  | windowShort (info : WindowInfo)
  | driver (outcome : DriverOutcome) (window : SlotNo) (cls : DriverClass)
deriving DecidableEq, Repr

/-- What triggered an evaluation (R150). -/
inductive Trigger where
  | report
  | idle
deriving DecidableEq, Repr

/-- Why a report was abandoned (R108). -/
inductive AbandonReason where
  | sequence
  | timeout
  | linkRemoved
deriving DecidableEq, Repr

/-- A general notice (R162, R150, R13, R58, R108). -/
inductive GeneralNotice where
  | mapNext (link : LinkNo) (version : BitVec 4) (countdown : Nat) (cause : Cause)
  | mapSwitched (link : LinkNo) (version : BitVec 4) (grade : Grade)
  | linkGrade (link : LinkNo) (old new : Grade) (trigger : Trigger) (escalated : Bool)
      (zone : Option Nat)
  | feedState (feed : Feed) (mains : MainsState) (seq : SeqState) (period : Nat)
  | reportAbandoned (link : LinkNo) (zone : Nat) (reason : AbandonReason) (blocks : Nat)
deriving DecidableEq, Repr

/-- The POSITION contents (R61). -/
structure Position where
  mains : MainsState
  period : Nat
  seq : SeqState
  beaconCount : Word
  halfIndex : Nat
  phase : Nat
  zone : Nat
  window : Option SlotNo
deriving DecidableEq, Repr

/-- The response a slot holds (R178). The payload of MAP_DATA is read only when its frame begins
(R176). -/
inductive Response where
  | accepted
  | acceptedDelivery (grade : Grade) (tallied : Bool)
  | acceptedHeard (known : Option StationIx)
  | refused (code : Completion)
  | refusedStale (active : BitVec 4) (next : Option (BitVec 4))
  | mapData
  | position (p : Position)
  | reportClosed (link : LinkNo) (zone : Nat)
deriving DecidableEq, Repr

/-- The occupied response slot (R176). -/
structure Slot where
  tag : Byte
  response : Response
  begun : Bool
deriving DecidableEq, Repr

/-- A frame the part sends, START, CRC and END apart (R171). -/
structure OutFrame where
  type : Byte
  tag : Byte
  flags : Byte
  payload : List Byte
deriving DecidableEq, Repr

/-- The source a frame on the line came from (R179). -/
inductive FrameSource where
  | timing
  | response
  | general
deriving DecidableEq, Repr

/-- The frame being sent and the tick at which its END can have been sent at the earliest. -/
structure Sending where
  source : FrameSource
  frame : OutFrame
  endAt : Nat
deriving DecidableEq, Repr

/-- The transmitter: IDLE when nothing is being sent (R169). `lineFree` is the first tick at which a
START may follow the last frame's END and the IDLE symbol after it (R170). -/
structure Transmitter where
  lineFree : Nat
  sending : Option Sending
deriving DecidableEq, Repr

/-- The receiver; a frame being collected is the list of its bytes so far (R171). -/
inductive Receiver where
  | waiting
  | collecting (bytes : List Byte)
deriving DecidableEq, Repr

/-- Link state; UP holds the loss deadline (R169, R174). -/
inductive LinkState where
  | down
  | up (loss : Nat)
deriving DecidableEq, Repr

/-- What CLC f holds (R169), with its report buffers and report state (R97, R98). -/
structure Clc where
  link : LinkState
  receiver : Receiver
  transmitter : Transmitter
  slot : Option Slot
  dropped : Bool
  timingLost : Bool
  generalLost : Bool
  timing : List TimingNotice
  general : List GeneralNotice
  buf0 : Buffer
  buf1 : Buffer
  report : ReportState
deriving DecidableEq, Repr

/-- A CLC after device reset (R97, R98, R115, R169). -/
def Clc.reset : Clc where
  link := .down
  receiver := .waiting
  transmitter := ⟨0, none⟩
  slot := none
  dropped := false
  timingLost := false
  generalLost := false
  timing := []
  general := []
  buf0 := .free
  buf1 := .free
  report := .idle

/-! ### Chapter 11: Management Port -/

/-- Command state of the port (R185). -/
inductive CommandState where
  | idle
  | collecting
  | executing
deriving DecidableEq, Repr

/-- A record of the event queue (R191). -/
inductive EventRecord where
  | stationHeard (feed : Feed) (address : Byte)
  | linkGrade (link : LinkNo) (old new : Grade)
  | mainsState (feed : Feed) (mains : MainsState)
  | scheduleSwapped (feed : Feed) (count : Word)
  | driverConflict (feed : Feed) (window : SlotNo)
  | linkState (feed : Feed) (up : Bool)
  | eventsLost (lost : Nat)
deriving DecidableEq, Repr

/-- What the MGP holds (R185). The flags CMD_BUSY, PARAM_WANTED and EVENT_PENDING are set exactly
while the command state and the event queue say so and are computed from them (Flags.lean).
`busOut` is the word last returned on BUS_D by a read strobe (spec/11 section 11.1). -/
structure Mgp where
  command : CommandState
  code : Byte
  announced : Byte
  params : List Word
  status : Word
  results : List Word
  readPos : Nat
  statusReady : Bool
  dataReady : Bool
  writeIgnored : Bool
  events : List EventRecord
  mask : Byte
  busOut : Word
deriving DecidableEq, Repr

/-- The MGP after device reset (R185); `busOut` 0 is a DESIGN CHOICE (notes/assumptions/3.md). -/
def Mgp.reset : Mgp where
  command := .idle
  code := 0
  announced := 0
  params := []
  status := 0
  results := []
  readPos := 0
  statusReady := false
  dataReady := false
  writeIgnored := false
  events := []
  mask := 0
  busOut := 0

/-! ### The whole part -/

/-- The state of the W340. `now` is the free-running count of reference ticks (spec/01 section 1.1).
`choices` is the model's own: it counts the free values used (notes/assumptions/2.md). `pending` is
the queue of the commands that wait, first in, first out. -/
structure State where
  now : Nat
  mtu : PerFeed Mtu
  csq : PerFeed Csq
  pda : Pda
  stations : Vector Station 64
  streams : Vector Stream 32
  links : Vector (Option Link) 128
  notch : PerFeed NotchMask
  claims : PerFeed (Option FetchClaim)
  planner : Planner
  clc : PerFeed Clc
  mgp : Mgp
  choices : Nat
  pending : List Instr
deriving DecidableEq, Repr

/-- The W340 right after device reset (R19, R42, R62, R63, R96, R115, R116, R133, R155, R169, R185). -/
def State.reset : State where
  now := 0
  mtu := PerFeed.all Mtu.reset
  csq := PerFeed.all Csq.reset
  pda := Pda.reset
  stations := stationsReset
  streams := Vector.replicate 32 ⟨.free, 0⟩
  links := Vector.replicate 128 none
  notch := PerFeed.all 0
  claims := PerFeed.all none
  planner := Planner.reset
  clc := PerFeed.all Clc.reset
  mgp := Mgp.reset
  choices := 0
  pending := []

/-- The reasons the machine stops with a fault. There is none: the manual gives every event of every
state an outcome, and no meaning raises a fault. -/
inductive Fault where
deriving DecidableEq, Repr

/-- The reasons a command has no meaning. -/
inductive Refusal where
  /-- Raised by exec alone, for a command whose meaning is not written yet; safe. No arm raises it:
  every command of the table has its meaning. -/
  | notModelled (mnemonic : String)
deriving DecidableEq, Repr

/-- The three outcomes of a step, for this machine. -/
abbrev Outcome := Host.Outcome State Fault Refusal

end Sys2Proof.Machine
end

