-- ==== Sys2Proof/Machine/Operands.lean ====
section
/-! DEFINITION. How a command's words and bytes are read as the things they name, and the code
numbers the manual gives to names. -/
namespace Sys2Proof.Machine

/-! ### Reading operands -/

/-- A feed index 0, 1, 2 (spec/00_scope.md section 5). -/
def feedOf (w : Word) : Option Feed :=
  match w.toNat with
  | 0 => some .a
  | 1 => some .b
  | 2 => some .c
  | _ => none

/-- A number below n, or none. -/
def finOf (n : Nat) (x : Nat) : Option (Fin n) :=
  if h : x < n then some ⟨x, h⟩ else none

/-- The feed index of a feed (spec/00_scope.md section 5). -/
def feedIndex : Feed → Nat
  | .a => 0
  | .b => 1
  | .c => 2

/-- The three feeds, in index order. -/
def feeds : List Feed := [.a, .b, .c]

/-- The local station of a feed (R77). -/
def localStation : Feed → StationIx
  | .a => 0
  | .b => 1
  | .c => 2

/-- The feed whose local station an entry is, if it is one (R77). -/
def localFeed (n : StationIx) : Option Feed :=
  match n.val with
  | 0 => some .a
  | 1 => some .b
  | 2 => some .c
  | _ => none

/-- The station a link belongs to (R79). -/
def linkStation (l : LinkNo) : StationIx := ⟨l.val / 2, by omega⟩

/-- The downlink of a station (R79). -/
def downlink (n : StationIx) : LinkNo := ⟨2 * n.val, by omega⟩

/-- The uplink of a station (R79). -/
def uplink (n : StationIx) : LinkNo := ⟨2 * n.val + 1, by omega⟩

/-- A half-cycle's other polarity (R6). -/
def opposite : Polarity → Polarity
  | .positive => .negative
  | .negative => .positive

/-! ### Codes -/

/-- State codes of the mains (spec/03 section 3.1). -/
def mainsCode : MainsState → Nat
  | .absent => 0
  | .acquiring => 1
  | .locked => 2
  | .freeRun => 3

/-- State codes of the sequencer (spec/03 section 3.1). -/
def seqCode : SeqState → Nat
  | .stopped => 0
  | .waitingSync => 1
  | .running => 2
  | .held => 3

/-- Polarity codes (spec/10 section 10.3). -/
def polarityCode : Polarity → Nat
  | .positive => 0
  | .negative => 1

/-- The kind of a window without its target. -/
def kindName : WindowKind → KindName
  | .beacon => .beacon
  | .shared => .shared
  | .reserved _ => .reserved
  | .quiet => .quiet
  | .probe _ => .probe

/-- Kind codes (R28). -/
def kindCode : KindName → Nat
  | .beacon => 0
  | .shared => 1
  | .reserved => 2
  | .quiet => 3
  | .probe => 4

/-- Claim class codes: NONE 0, SOFT 1, HARD 2, BEACON 3 (R28). -/
def classCode : ClaimClass → Nat
  | none => 0
  | some .soft => 1
  | some .hard => 2
  | some .beacon => 3

/-- The target word of a window, or 255 (R30). -/
def targetCode : WindowKind → Nat
  | .reserved n => n.val
  | .probe n => n.val
  | _ => 255

/-- Grade codes (R140). -/
def gradeCode : Grade → Nat
  | .full => 0
  | .guarded => 1
  | .robust => 2
  | .unreachable => 3

/-- Cause codes, 0 for none (R132). -/
def causeCode : Option Cause → Nat
  | none => 0
  | some .plan => 1
  | some .stepUp => 2
  | some .stepDown => 3
  | some .notch => 4

/-- Form codes (R167). -/
def formCode : MapForm → Nat
  | .adaptive => 0
  | .robust => 1

/-- Completion codes (R178). -/
def completionCode : Completion → Nat
  | .ok => 0
  | .busy => 1
  | .badParam => 2
  | .noEntry => 3
  | .noLink => 4
  | .inUse => 5
  | .full => 6
  | .wrongState => 7
  | .staleVersion => 8
  | .badSchedule => 9
  | .noSchedule => 10
  | .badFrame => 11

/-- Abandonment reasons (R108). -/
def reasonCode : AbandonReason → Nat
  | .sequence => 1
  | .timeout => 2
  | .linkRemoved => 3

/-- Triggers (R150). -/
def triggerCode : Trigger → Nat
  | .report => 1
  | .idle => 2

/-- A Bool as a 0 or 1 field. -/
def bit (b : Bool) : Nat := if b then 1 else 0

/-- A management word of a number. -/
def word (n : Nat) : Word := BitVec.ofNat 16 n

/-- A frame byte of a number. -/
def byte (n : Nat) : Byte := BitVec.ofNat 8 n

/-- A window kind from its code and target words (R28). -/
def kindOf (kind target : Word) : Option WindowKind :=
  match kind.toNat with
  | 0 => some .beacon
  | 1 => some .shared
  | 2 => (finOf 32 target.toNat).map .reserved
  | 3 => some .quiet
  | 4 => (finOf 64 target.toNat).map .probe
  | _ => none

/-- The six words of a notch mask as one mask: bit j of word i is group 16(i-1)+j (R133). -/
def maskOfWords (w1 w2 w3 w4 w5 w6 : Word) : NotchMask :=
  w6 ++ w5 ++ w4 ++ w3 ++ w2 ++ w1

/-- The six words of a notch mask (R133). -/
def wordsOfMask (m : NotchMask) : List Word :=
  [m.extractLsb' 0 16, m.extractLsb' 16 16, m.extractLsb' 32 16, m.extractLsb' 48 16,
   m.extractLsb' 64 16, m.extractLsb' 80 16]

end Sys2Proof.Machine
end

