-- ==== Sys2Proof/Machine/Flags.lean ====
section
/-! DEFINITION. The flags of the management port and the output pins, all computed from the state
that drives them: the flag word (R188), INT_N (R189), DRV_SEL and DRV_EN (R64). -/
namespace Sys2Proof.Machine

/-- CMD_BUSY: set exactly while the command state is COLLECTING or EXECUTING (R185). -/
def Mgp.cmdBusy (m : Mgp) : Bool := m.command ≠ .idle

/-- PARAM_WANTED: set exactly while the command state is COLLECTING (R185). -/
def Mgp.paramWanted (m : Mgp) : Bool := m.command = .collecting

/-- EVENT_PENDING: set exactly while the event queue is not empty (R185). -/
def Mgp.eventPending (m : Mgp) : Bool := m.events ≠ []

/-- The flag word a read of port 2 returns (R188). -/
def Mgp.flagWord (m : Mgp) : Word :=
  word (bit m.cmdBusy + 2 * bit m.paramWanted + 4 * bit m.statusReady + 8 * bit m.dataReady
    + 16 * bit m.eventPending + 32 * bit m.writeIgnored)

/-- The class code of an event (R191). -/
def eventClass : EventRecord → Nat
  | .stationHeard _ _ => 1
  | .linkGrade _ _ _ => 2
  | .mainsState _ _ => 3
  | .scheduleSwapped _ _ => 4
  | .driverConflict _ _ => 5
  | .linkState _ _ => 6
  | .eventsLost _ => 7

/-- The three fields of an event, 0 for a field its class does not carry (R191, R192). -/
def eventFields : EventRecord → List Word
  | .stationHeard f a => [word (feedIndex f), word a.toNat, 0]
  | .linkGrade l o n => [word l.val, word (gradeCode o), word (gradeCode n)]
  | .mainsState f m => [word (feedIndex f), word (mainsCode m), 0]
  | .scheduleSwapped f n => [word (feedIndex f), n, 0]
  | .driverConflict f w => [word (feedIndex f), word w.val, 0]
  | .linkState f up => [word (feedIndex f), word (bit up), 0]
  | .eventsLost n => [word n, 0, 0]

/-- INT_N is driven low (true here) while STATUS_READY is set, or while the event queue's head is of
a class the mask does not hold (R189). -/
def Mgp.interrupting (m : Mgp) : Bool :=
  m.statusReady ||
    match m.events with
    | [] => false
    | e :: _ => !m.mask.getLsbD (eventClass e)

/-- DRV_SEL: the connected feed, 3 for none (R64). -/
def Pda.drvSel (p : Pda) : Nat :=
  match p.connected with
  | some f => feedIndex f
  | none => 3

/-- DRV_EN: high exactly in ENABLED (R64). -/
def Pda.drvEn (p : Pda) : Bool := p.driver = .enabled

end Sys2Proof.Machine
end

