-- ==== Sys2Proof/Machine/Ops.lean ====
section
/-! DEFINITION. The named operations over the part's tables, queues and counts that the blocks share.
Every block reads and writes them through these. -/
namespace Sys2Proof.Machine

/-! ### Records of a feed -/

/-- Replaces MTU f. -/
def State.setMtu (s : State) (f : Feed) (m : Mtu) : State := { s with mtu := s.mtu.set f m }

/-- Replaces CSQ f. -/
def State.setCsq (s : State) (f : Feed) (q : Csq) : State := { s with csq := s.csq.set f q }

/-- Replaces CLC f. -/
def State.setClc (s : State) (f : Feed) (c : Clc) : State := { s with clc := s.clc.set f c }

/-- Replaces the fetch claim of cycle link f. -/
def State.setClaim (s : State) (f : Feed) (c : Option FetchClaim) : State :=
  { s with claims := s.claims.set f c }

/-- Replaces the PDA. -/
def State.setPda (s : State) (p : Pda) : State := { s with pda := p }

/-- Replaces the Planner. -/
def State.setPlanner (s : State) (p : Planner) : State := { s with planner := p }

/-- Replaces the MGP. -/
def State.setMgp (s : State) (m : Mgp) : State := { s with mgp := m }

/-- The number of zones k of a feed (R15). -/
def State.zoneCount (s : State) (f : Feed) : Nat := (s.mtu.get f).boundaries.length + 1

/-! ### Tables -/

/-- A LIVE link, or none for a FREE link and for the numbers 0..5, which are not links (R79). -/
def State.link (s : State) (l : LinkNo) : Option Link := if l.val < 6 then none else s.links[l]

/-- Replaces a link: `none` frees it. -/
def State.setLink (s : State) (l : LinkNo) (x : Option Link) : State :=
  { s with links := s.links.set l.val x l.isLt }

/-- Changes the Link Supervisor's record of a LIVE link. -/
def State.setRecord (s : State) (l : LinkNo) (k : Link) (r : LinkRecord) : State :=
  s.setLink l (some { k with record := r })

/-- Whether a link is a LIVE link of a feed. -/
def State.liveOn (s : State) (f : Feed) (l : LinkNo) : Bool :=
  match s.link l with
  | some k => k.record.feed = f
  | none => false

/-- The LIVE links of a feed in increasing order of link number (R134, R143, R159). -/
def State.liveLinks (s : State) (f : Feed) : List LinkNo := (List.finRange 128).filter (s.liveOn f)

/-- A station entry (R77). -/
def State.station (s : State) (n : StationIx) : Station := s.stations[n]

/-- Replaces a station entry. -/
def State.setStation (s : State) (n : StationIx) (x : Station) : State :=
  { s with stations := s.stations.set n.val x n.isLt }

/-- A stream record (R90). -/
def State.stream (s : State) (n : StreamNo) : Stream := s.streams[n]

/-- Replaces a stream record. -/
def State.setStream (s : State) (n : StreamNo) (x : Stream) : State :=
  { s with streams := s.streams.set n.val x n.isLt }

/-- Whether a station is MEMBER on a feed. -/
def State.memberOn (s : State) (n : StationIx) (f : Feed) : Bool :=
  match (s.station n).member with
  | some m => m.feed = f
  | none => false

/-- The MEMBER entry of a feed that holds an address, the local station included (R78). -/
def State.holderOf (s : State) (f : Feed) (address : Nat) : Option StationIx :=
  (List.finRange 64).find? fun n =>
    match (s.station n).member with
    | some m => m.feed = f && m.address.toNat = address
    | none => false

/-- The address of a station, absent for a FREE entry. -/
def State.addressOf (s : State) (n : StationIx) : Option Byte :=
  ((s.station n).member).map (·.address)

/-- A stream's two stations, when it is not FREE (R90). -/
def StreamState.ends : StreamState → Option StreamEnds
  | .free => none
  | .active e => some e
  | .suspended e => some e

/-! ### Reference counts (R81) -/

/-- One more use of a station. -/
def State.holdStation (s : State) (n : StationIx) : State :=
  s.setStation n { s.station n with refs := (s.station n).refs + 1 }

/-- One use of a station less. -/
def State.dropStation (s : State) (n : StationIx) : State :=
  s.setStation n { s.station n with refs := (s.station n).refs - 1 }

/-- One more use of a stream. -/
def State.holdStream (s : State) (n : StreamNo) : State :=
  s.setStream n { s.stream n with refs := (s.stream n).refs + 1 }

/-- One use of a stream less. -/
def State.dropStream (s : State) (n : StreamNo) : State :=
  s.setStream n { s.stream n with refs := (s.stream n).refs - 1 }

/-! ### The event queue -/

/-- R191: how the event queue takes an offered event. The marker, when held, is the newest entry. -/
def offerEventTo (q : List EventRecord) (e : EventRecord) : List EventRecord :=
  match q.getLast? with
  | some (.eventsLost n) => q.dropLast ++ [.eventsLost (min (n + 1) Config.countCap)]
  | _ => if q.length < Config.eventQueueRoom then q ++ [e] else q ++ [.eventsLost 1]

/-- Offers an event to the MGP (R191). -/
def State.offerEvent (s : State) (e : EventRecord) : State :=
  s.setMgp { s.mgp with events := offerEventTo s.mgp.events e }

/-! ### Folding an operation over a list -/

/-- Applies an operation to the state for each entry of a list, in order. -/
def State.forEach {α : Type} (s : State) (l : List α) (g : State → α → State) : State :=
  l.foldl g s

end Sys2Proof.Machine
end

