-- ==== Sys2Proof/Machine/Frames.lean ====
section
/-! DEFINITION. Frames of the cycle links: their layout and CRC (R171, R172) and the types and payloads
of what the part sends (spec/10 section 10.3, R178). -/
namespace Sys2Proof.Machine

/-! ### The CRC (R172) -/

/-- One bit into the CRC register (R172, steps 2 and 3). -/
def crcBit (r : Word) (b : Bool) : Word :=
  if (r.msb ^^ b) then (r <<< 1) ^^^ 0x1021 else r <<< 1

/-- One byte into the CRC register, most significant bit first (R172). -/
def crcByte (r : Word) (x : Byte) : Word :=
  [x.getLsbD 7, x.getLsbD 6, x.getLsbD 5, x.getLsbD 4, x.getLsbD 3, x.getLsbD 2, x.getLsbD 1,
   x.getLsbD 0].foldl crcBit r

/-- The CRC of a run of bytes (R172). -/
def crc (bytes : List Byte) : Word := bytes.foldl crcByte 0xFFFF

/-! ### Layout (R171) -/

/-- Two bytes of a number, high byte first. -/
def bytes2 (n : Nat) : List Byte := [byte (n / 256), byte n]

/-- Three bytes of a number, high byte first. -/
def bytes3 (n : Nat) : List Byte := [byte (n / 65536), byte (n / 256), byte n]

/-- The bytes of a frame that its CRC covers (R171, R172). -/
def OutFrame.body (f : OutFrame) : List Byte :=
  [f.type, ~~~f.type, f.tag, f.flags, byte f.payload.length] ++ f.payload

/-- The bytes between START and END of a frame the part sends (R171). -/
def OutFrame.lineBytes (f : OutFrame) : List Byte := f.body ++ bytes2 (crc f.body).toNat

/-- The code groups of a frame, START and END included, each of which takes 4 ticks (R170, R171). -/
def OutFrame.symbols (f : OutFrame) : Nat := f.payload.length + 9

/-! ### Payloads -/

/-- An address field: 0 when absent (spec/10 section 10.3). -/
def addressByte (a : Option Byte) : Byte := a.getD 0

/-- The fields from transmitter to probe address that WINDOW and WINDOW_SHORT share. -/
def WindowInfo.addresses (w : WindowInfo) : List Byte :=
  [addressByte w.transmitter, addressByte w.receiver, addressByte w.probe]

/-- The position and kind fields of WINDOW and WINDOW_SHORT. -/
def WindowInfo.head (w : WindowInfo) : List Byte :=
  [byte w.half.val, byte w.phase.val, byte w.index.val, byte (kindCode w.kind)]

/-- A feed field: 255 for none (R74). -/
def feedByte (f : Option Feed) : Byte :=
  match f with
  | some g => byte (feedIndex g)
  | none => 255

/-- Outcome code, other feed and flags of a DRIVER notice (R74, spec/10 section 10.3). -/
def DriverOutcome.fields : DriverOutcome → Byte × Byte × Byte
  | .granted late => (1, 255, byte (bit late))
  | .waiting other => (2, feedByte other, 0)
  | .lost other => (3, feedByte other, 0)

/-- The type of a timing notice's frame. -/
def TimingNotice.type : TimingNotice → Byte
  | .beaconStart .. => 0x41
  | .zone _ _ _ _ _ => 0x42
  | .window .. => 0x43
  | .windowShort .. => 0x44
  | .driver .. => 0x45

/-- The payload of a timing notice (spec/10 section 10.3). -/
def TimingNotice.payload : TimingNotice → List Byte
  | .beaconStart count period beaconLen zones countdown =>
      bytes2 count.toNat ++ bytes3 period ++ [byte beaconLen, byte zones, byte countdown]
  | .zone half polarity number phase zones =>
      [byte half, byte (polarityCode polarity), byte number, byte phase, byte zones]
  | .window count info cls duration =>
      bytes2 count.toNat ++ info.head ++ info.addresses ++ [byte (classCode cls)] ++ bytes3 duration
        ++ [byte (bit info.skipped)]
  | .windowShort info => info.head ++ info.addresses ++ [byte (bit info.skipped)]
  | .driver outcome index cls =>
      [outcome.fields.1, byte index.val, byte (classCode (some cls)), outcome.fields.2.1,
       outcome.fields.2.2]

/-- The type of a general notice's frame. -/
def GeneralNotice.type : GeneralNotice → Byte
  | .mapNext .. => 0x51
  | .mapSwitched .. => 0x52
  | .linkGrade .. => 0x53
  | .feedState .. => 0x54
  | .reportAbandoned .. => 0x55

/-- The payload of a general notice (R108, R150, R162, spec/10 section 10.3). -/
def GeneralNotice.payload : GeneralNotice → List Byte
  | .mapNext link version countdown cause =>
      [byte link.val, byte version.toNat, byte countdown, byte (causeCode (some cause))]
  | .mapSwitched link version grade =>
      [byte link.val, byte version.toNat, byte (gradeCode grade)]
  | .linkGrade link old new trigger escalated zone =>
      [byte link.val, byte (gradeCode old), byte (gradeCode new), byte (triggerCode trigger),
       byte (bit escalated), byte (zone.getD 255)]
  | .feedState feed mains seq period =>
      [byte (feedIndex feed), byte (mainsCode mains), byte (seqCode seq)] ++ bytes3 period
  | .reportAbandoned link zone reason blocks =>
      [byte link.val, byte zone, byte (reasonCode reason), byte blocks]

/-- The POSITION payload (R61, spec/10 section 10.3). -/
def Position.payload (p : Position) : List Byte :=
  [byte (mainsCode p.mains)] ++ bytes3 p.period ++ [byte (seqCode p.seq)]
    ++ bytes2 p.beaconCount.toNat
    ++ [byte p.halfIndex, byte p.phase, byte p.zone, byte ((p.window.map Fin.val).getD 255)]

/-- The period estimate in the one result word R61 gives it: P itself where it fits in 16 bits (as 0
does), and a free value where it does not, since the manual does not say which part of P the word
holds (DESIGN CHOICE, notes/assumptions/4.md). -/
def periodWord (p : Nat) : Word := if p < 65536 then word p else Config.periodWord p

/-- The POSITION contents as eight result words (R61). -/
def Position.words (p : Position) : List Word :=
  [word (mainsCode p.mains), periodWord p.period, word (seqCode p.seq), p.beaconCount,
   word p.halfIndex,
   word p.phase, word p.zone, word ((p.window.map Fin.val).getD 255)]

/-- The type of a response's frame (spec/10 section 10.3). -/
def Response.type : Response → Byte
  | .accepted | .acceptedDelivery .. | .acceptedHeard .. => 0x21
  | .refused .. | .refusedStale .. => 0x22
  | .mapData => 0x23
  | .position .. => 0x24
  | .reportClosed .. => 0x25

/-- The payload of a response; the MAP_DATA payload is given by the claimed set (R178, R163). -/
def Response.payload (mapData : List Byte) : Response → List Byte
  | .accepted => []
  | .acceptedDelivery grade tallied => [byte (gradeCode grade), byte (bit tallied)]
  | .acceptedHeard known => [byte (bit known.isSome), byte ((known.map Fin.val).getD 255)]
  | .refused code => [byte (completionCode code)]
  | .refusedStale active next =>
      [byte (completionCode .staleVersion), byte active.toNat,
       byte ((next.map BitVec.toNat).getD 255)]
  | .mapData => mapData
  | .position p => p.payload
  | .reportClosed link zone => [byte link.val, byte zone]

end Sys2Proof.Machine
end

