-- ==== Sys2Proof/Machine/Line.lean ====
section
/-! DEFINITION. The sending half of a cycle link: the MAP_DATA payload read from the claimed set (R167),
the transmitter's choice (R179), the offers of notices (R180 to R182) and the response slot (R176). -/
namespace Sys2Proof.Machine

/-! ### The claimed set and MAP_DATA (R164, R165, R167) -/

/-- The set a claim names, as it stands. -/
def State.claimedSet (s : State) (c : FetchClaim) : Option MapSet :=
  match c.named with
  | .kept m => some m
  | .active => (s.link c.link).map (·.active)
  | .next => (s.link c.link).bind fun k => k.next.map (·.maps)

/-- The 48 code bytes of a zone map: group 2i in bits 0..3 and group 2i+1 in bits 4..7 (R167). -/
def ZoneMap.codeBytes (z : ZoneMap) : List Byte :=
  (List.finRange 48).map fun i =>
    byte ((z.codes[2 * i.val]'(by omega)).val + 16 * (z.codes[2 * i.val + 1]'(by omega)).val)

/-- The 56 bytes of a MAP_DATA payload (R167). -/
def mapDataPayload (c : FetchClaim) (m : MapSet) (z : ZoneMap) : List Byte :=
  [byte c.link.val, byte m.version.toNat, byte (gradeCode m.grade), byte c.zone,
   byte (formCode z.form), byte z.repetition] ++ bytes2 z.rawCapacity ++ z.codeBytes

/-- The payload of the MAP_DATA frame of cycle link f, read from the claimed set when the frame begins
(R164). A MAP_DATA response always stands with its claim and a zone of the claimed set
(R163, R165), so the empty payload is never sent (DESIGN CHOICE, notes/assumptions/24.md, safe). -/
def State.mapData (s : State) (f : Feed) : List Byte :=
  match s.claims.get f with
  | none => []
  | some c =>
      match s.claimedSet c with
      | none => []
      | some m =>
          match m.zones[c.zone]? with
          | none => []
          | some z => mapDataPayload c m z

/-! ### The transmitter (R170, R179) -/

/-- Puts a frame on the line of cycle link f: START follows the IDLE symbol after the last frame, and
each code group takes 4 ticks (R170). The END comes at this tick at the earliest: DEDUCED
(notes/assumptions/12.md), unsafe for a claim that it comes exactly then. -/
def State.send (s : State) (f : Feed) (c : Clc) (source : FrameSource) (frame : OutFrame) : State :=
  s.setClc f
    { c with
      transmitter :=
        { c.transmitter with
          sending := some ⟨source, frame,
            max s.now c.transmitter.lineFree + Config.symbolTicks * frame.symbols⟩ } }

/-- Begins the head of the general queue, if there is one (R179, R181). -/
def State.sendGeneral (s : State) (f : Feed) (c : Clc) : State :=
  match c.general with
  | [] => s
  | n :: rest =>
      s.send f { c with general := rest, generalLost := false } .general
        ⟨n.type, 0, byte (4 * bit c.generalLost), n.payload⟩

/-- Begins the response in the slot, if one is there and not yet begun, and otherwise the head of the
general queue (R176, R179). -/
def State.sendResponse (s : State) (f : Feed) (c : Clc) : State :=
  match c.slot with
  | some sl =>
      if sl.begun then s.sendGeneral f c
      else
        s.send f { c with slot := some { sl with begun := true }, dropped := false } .response
          ⟨sl.response.type, sl.tag, byte (bit c.dropped), sl.response.payload (s.mapData f)⟩
  | none => s.sendGeneral f c

/-- The transmitter's choice when it is IDLE: the timing queue, then the response, then the general
queue, each frame carrying and clearing the mark of its kind (R176, R179 to R181). A DOWN link
sends only IDLE (R174). -/
def State.chooseFrame (s : State) (f : Feed) : State :=
  let c := s.clc.get f
  match c.link, c.transmitter.sending with
  | .up _, none =>
      match c.timing with
      | n :: rest =>
          s.send f { c with timing := rest, timingLost := false } .timing
            ⟨n.type, 0, byte (2 * bit c.timingLost), n.payload⟩
      | [] => s.sendResponse f c
  | _, _ => s

/-! ### Offers of notices -/

/-- How the timing queue of an UP link takes a notice: at 8 entries the oldest is displaced and
TIMING_LOST set (R180). -/
def Clc.queueTiming (c : Clc) (n : TimingNotice) : Clc :=
  if c.timing.length < Config.noticeQueueSize then { c with timing := c.timing ++ [n] }
  else { c with timing := c.timing.drop 1 ++ [n], timingLost := true }

/-- Offers a timing notice to CLC f (R180, R182). -/
def State.offerTiming (s : State) (f : Feed) (n : TimingNotice) : State :=
  match (s.clc.get f).link with
  | .down => s.setClc f { s.clc.get f with timingLost := true }
  | .up _ => (s.setClc f ((s.clc.get f).queueTiming n)).chooseFrame f

/-- Whether a queued notice is of the same kind and for the same link as an offered MAP_NEXT or
LINK_GRADE, which then replaces it (R181). -/
def GeneralNotice.coalesces : GeneralNotice → GeneralNotice → Bool
  | .mapNext l _ _ _, .mapNext m _ _ _ => l = m
  | .linkGrade l _ _ _ _ _, .linkGrade m _ _ _ _ _ => l = m
  | _, _ => false

/-- The general queue with the first notice that the offered one coalesces with replaced in its
place (R181). -/
def replaceNotice (n : GeneralNotice) : List GeneralNotice → List GeneralNotice
  | [] => []
  | q :: rest => if n.coalesces q then n :: rest else q :: replaceNotice n rest

/-- How the general queue of an UP link takes a notice (R181). -/
def Clc.queueGeneral (c : Clc) (n : GeneralNotice) : Clc :=
  if c.general.any n.coalesces then { c with general := replaceNotice n c.general }
  else if c.general.length < Config.noticeQueueSize then { c with general := c.general ++ [n] }
  else { c with generalLost := true }

/-- Offers a general notice to CLC f (R181, R182). -/
def State.offerGeneral (s : State) (f : Feed) (n : GeneralNotice) : State :=
  match (s.clc.get f).link with
  | .down => s.setClc f { s.clc.get f with generalLost := true }
  | .up _ => (s.setClc f ((s.clc.get f).queueGeneral n)).chooseFrame f

/-! ### The response slot (R176) -/

/-- Places a response for the command of the given TAG in the slot of CLC f (R176). -/
def State.respond (s : State) (f : Feed) (tag : Byte) (r : Response) : State :=
  (s.setClc f { s.clc.get f with slot := some ⟨tag, r, false⟩ }).chooseFrame f

/-- Places a REFUSED response (R178). -/
def State.refuse (s : State) (f : Feed) (tag : Byte) (code : Completion) : State :=
  s.respond f tag (.refused code)

/-! ### Receiving a frame (R171, R173, R175) -/

/-- A frame whose CRC checks has been received on cycle link f: its END moves the loss deadline of an
UP link, and brings a DOWN link UP with a LINK_STATE event (R173, R174). -/
def State.heardFrame (s : State) (f : Feed) : State :=
  let c := s.clc.get f
  let c' := { c with link := .up (s.now + Config.lossTicks), receiver := .waiting }
  match c.link with
  | .up _ => s.setClc f c'
  | .down => (s.setClc f c').offerEvent (.linkState f true)

/-- Sets the DROPPED mark of CLC f. -/
def State.markDropped (s : State) (f : Feed) : State :=
  s.setClc f { s.clc.get f with dropped := true }

/-- Steps 1 and 3 of R175 for a good frame of cycle link f: with the slot occupied the frame is
discarded and DROPPED set; otherwise its owner takes it. -/
def State.takeGood (s : State) (f : Feed) (owner : State → State) : State :=
  match (s.clc.get f).slot with
  | some _ => s.markDropped f
  | none => owner s

/-- A good frame received on cycle link f, handed to its owner by R173 and R175. -/
def State.takeFrame (s : State) (f : Feed) (owner : State → State) : State :=
  (s.heardFrame f).takeGood f owner

/-- R178: a LIVE link that a command on cycle link f may name: not 0..5 nor above 127, not FREE, and a
link of a station of feed f. -/
def State.linkOn (s : State) (f : Feed) (b : Byte) : Option (LinkNo × Link) :=
  (finOf 128 b.toNat).bind fun l =>
    (s.link l).bind fun k => if k.record.feed = f then some (l, k) else none

end Sys2Proof.Machine
end

