-- ==== Sys2Proof/Machine/Driver.lean ====
section
/-! DEFINITION. Chapter 4, the Panel Driver Arbiter: arrivals, preemption, the waiting list,
replacement, release and the end of a switch (R65 to R75). -/
namespace Sys2Proof.Machine

/-- The rank of a class: BEACON above HARD above SOFT (R68, R73). -/
def classRank : DriverClass → Nat
  | .soft => 0
  | .hard => 1
  | .beacon => 2

/-- Whether a claim preempts a holder: BEACON over HARD or SOFT, HARD over SOFT (R68). -/
def preempts (claim holder : DriverClass) : Bool := classRank holder < classRank claim

/-- Replaces the claim record of a feed. -/
def Pda.setClaim (p : Pda) (f : Feed) (c : Option ClaimRecord) : Pda :=
  { p with claims := p.claims.set f c }

/-- The class of a feed's claim record, SOFT's rank standing for a feed that has none. -/
def Pda.rankOf (p : Pda) (f : Feed) : Nat :=
  match p.claims.get f with
  | some c => classRank c.cls
  | none => 0

/-- The waiting list with a claim of a class joined at the end of its class's run (R73). -/
def Pda.joinList (p : Pda) (f : Feed) (cls : DriverClass) : List Feed :=
  p.waiting.takeWhile (fun g => classRank cls ≤ p.rankOf g) ++
    f :: p.waiting.dropWhile (fun g => classRank cls ≤ p.rankOf g)

/-- The driver enters ENABLED for f's claim, which becomes HOLDING (R66, R69). -/
def Pda.enable (p : Pda) (f : Feed) (c : ClaimRecord) : Pda :=
  { p with
    driver := .enabled
    switchAt := none
    holder := some ⟨f, c.cls⟩
    claims := p.claims.set f (some { c with status := .holding }) }

/-- The driver enters SWITCHING towards f, whose claim becomes TARGET; the switch completes 2,500
ticks ahead (R66, R68). -/
def Pda.switchTo (p : Pda) (f : Feed) (c : ClaimRecord) (now : Nat) : Pda :=
  { p with
    driver := .switching
    connected := some f
    switchAt := some (now + Config.switchTicks)
    holder := none
    claims := p.claims.set f (some { c with status := .target }) }

/-- The driver enters FREE, still connected where it is (R69, R71). -/
def Pda.freeDriver (p : Pda) : Pda := { p with driver := .free, switchAt := none, holder := none }

/-- Takes a feed off the waiting list. -/
def Pda.leaveList (p : Pda) (f : Feed) : Pda := { p with waiting := p.waiting.filter (· ≠ f) }

/-- Offers a DRIVER notice to the CLC of the feed it concerns (R74). -/
def State.offerDriver (s : State) (f : Feed) (o : DriverOutcome) (c : ClaimRecord) : State :=
  s.offerTiming f (.driver o c.window c.cls)

/-- Grants the driver to f's claim at this moment; LATE when it comes more than 2,500 ticks after the
claim's window start time (R66, R69, R74). -/
def State.grantDriver (s : State) (f : Feed) (c : ClaimRecord) : State :=
  (s.setPda (s.pda.enable f c)).offerDriver f (.granted (c.start + Config.lateTicks < s.now)) c

/-- Serves a claim of f at FREE: enabled at once where the relays are, a switch otherwise (R66). -/
def State.serveAtFree (s : State) (f : Feed) (c : ClaimRecord) : State :=
  if s.pda.connected = some f then s.grantDriver f c
  else s.setPda (s.pda.switchTo f c s.now)

/-- Puts f's claim on the waiting list, with a WAITING notice, and for a BEACON claim a
DRIVER_CONFLICT event (R67, R75). -/
def State.waitForDriver (s : State) (f : Feed) (c : ClaimRecord) : State :=
  let p := s.pda
  let s1 := s.setPda
    { p with waiting := p.joinList f c.cls, claims := p.claims.set f (some { c with status := .waiting }) }
  let s2 := s1.offerDriver f (.waiting p.connected) c
  if c.cls = .beacon then s2.offerEvent (.driverConflict f c.window) else s2

/-- Preemption of the holder g by f's claim: g's record is dropped, LOST is offered to g, and the
driver switches towards f (R68). -/
def State.preempt (s : State) (h : Holder) (f : Feed) (c : ClaimRecord) : State :=
  let lost : State :=
    match s.pda.claims.get h.feed with
    | some old => (s.setPda (s.pda.setClaim h.feed none)).offerDriver h.feed (.lost (some f)) old
    | none => s
  lost.setPda (lost.pda.switchTo f c s.now)

/-- The arrival of a claim of f (R66, R67, R68); towards f itself a switch takes the claim as its
target again (R72). -/
def State.claimArrives (s : State) (f : Feed) (c : ClaimRecord) : State :=
  match s.pda.driver with
  | .free => s.serveAtFree f c
  | .switching =>
      if s.pda.connected = some f then s.setPda (s.pda.setClaim f (some { c with status := .target }))
      else s.waitForDriver f c
  | .enabled =>
      match s.pda.holder with
      | some h => if preempts c.cls h.cls then s.preempt h f c else s.waitForDriver f c
      | none => s.waitForDriver f c

/-- The head of the waiting list is judged against the holder's class, and preempts it or stays
(R68). -/
def State.judgeHead (s : State) : State :=
  match s.pda.waiting, s.pda.holder with
  | g :: _, some h =>
      match s.pda.claims.get g with
      | some c =>
          if preempts c.cls h.cls then (s.setPda (s.pda.leaveList g)).preempt h g c else s
      | none => s
  | _, _ => s

/-- Serves the waiting list at FREE: its head is served as an arrival, its window start time kept and
no second WAITING notice offered (R71). -/
def State.serveList (s : State) : State :=
  match s.pda.waiting with
  | g :: _ =>
      match s.pda.claims.get g with
      | some c => (s.setPda (s.pda.leaveList g)).serveAtFree g c
      | none => s
  | [] => s

/-- A release or withdrawal of f's claim (R71, R72); with no claim record it finds nothing (R65). A release taken
before a claim of its tick that would have preempted f serves a waiting head first, and the claim then waits: one of
the two readings that a row of R76 gives (DESIGN CHOICE, notes/assumptions/32.md). -/
def State.releaseDriver (s : State) (f : Feed) : State :=
  match s.pda.claims.get f with
  | none => s
  | some c =>
      match c.status with
      | .holding => (s.setPda (s.pda.freeDriver.setClaim f none)).serveList
      | .waiting => s.setPda ((s.pda.leaveList f).setClaim f none)
      | .target => s.setPda (s.pda.setClaim f none)

/-- A replacement of f's claim by a new class, window index and window start time (R70); with no claim
record it is an arrival (R65). -/
def State.replaceClaim (s : State) (f : Feed) (cls : DriverClass) (w : SlotNo) (start : Nat) :
    State :=
  match s.pda.claims.get f with
  | none => s.claimArrives f ⟨cls, w, start, .waiting⟩
  | some c =>
      match c.status with
      | .holding =>
          let c' : ClaimRecord := ⟨cls, w, start, .holding⟩
          let p := s.pda
          ((s.setPda { p with holder := some ⟨f, cls⟩, claims := p.claims.set f (some c') }).offerDriver
            f (.granted false) c').judgeHead
      | .target => s.setPda (s.pda.setClaim f (some ⟨cls, w, start, .target⟩))
      | .waiting =>
          (s.setPda ((s.pda.leaveList f).setClaim f none)).claimArrives f ⟨cls, w, start, .waiting⟩

/-- The end of a switch towards the connected feed (R69). -/
def State.endSwitch (s : State) : State :=
  match s.pda.connected.bind fun f => (s.pda.claims.get f).map (Prod.mk f) with
  | some (f, c) => (s.grantDriver f c).judgeHead
  | none => (s.setPda s.pda.freeDriver).serveList

/-- Whether the switch completion is due. -/
def State.switchDue (s : State) : Bool :=
  s.pda.driver = .switching && s.pda.switchAt.any (· ≤ s.now)

/-- SWITCH_COMPLETION (R69). -/
def execSwitchCompletion (s : State) : Outcome :=
  .next (if s.switchDue then s.endSwitch else s)

end Sys2Proof.Machine
end

