-- ==== Sys2Proof/Machine/Planning.lean ====
section
/-! DEFINITION. Chapter 7, the arithmetic of a plan: load codes, capacities, the form of a zone map, the
hysteresis (R126 to R131), and chapter 6's fold of a report (R112, R113). -/
namespace Sys2Proof.Machine

/-- Bits per carrier of a load code (spec/00_scope.md section 5). -/
def loadBits (c : Fin 8) : Nat :=
  match c.val with
  | 5 => 6
  | 6 => 8
  | 7 => 10
  | n => n

/-- The load code of an effective SNR (R127). -/
def loadCode (e : Int) : Fin 8 :=
  if e < 16 then 0
  else if e < 28 then 1
  else if e < 44 then 2
  else if e < 56 then 3
  else if e < 80 then 4
  else if e < 104 then 5
  else if e < 128 then 6
  else 7

/-- The effective margin of a job (R126). -/
def effectiveMargin (g : Grade) (margin : Nat) : Nat :=
  match g with
  | .guarded => margin + 12
  | _ => margin

/-- The effective SNR of a group's accumulator (R126). -/
def effectiveSnr (acc margin : Nat) : Int := ((acc / 4 : Nat) : Int) - (margin : Int)

/-- Whether a group is notched in a mask (R133). -/
def notched (m : NotchMask) (g : Nat) : Bool := m.getLsbD g

/-- The load code of a group of a zone: 0 when notched (R127). -/
def groupCode (m : NotchMask) (margin : Nat) (z : ZoneRecord) (g : Fin 96) : Fin 8 :=
  if notched m g.val then 0 else loadCode (effectiveSnr z.groups[g].acc margin)

/-- Raw capacity of 96 load codes (R128, spec/00_scope.md section 5). -/
def rawCapacity (codes : Vector (Fin 8) 96) : Nat :=
  ((List.finRange 96).map fun g => 8 * loadBits codes[g]).sum

/-- The number of open groups of a mask (R128). -/
def openGroups (m : NotchMask) : Nat :=
  ((List.range 96).filter fun g => !notched m g).length

/-- The ROBUST zone map of a mask (R129). -/
def robustMap (m : NotchMask) : ZoneMap where
  form := .robust
  repetition := 4
  rawCapacity := 16 * openGroups m
  codes := Vector.ofFn fun g => if notched m g.val then 0 else 2

/-- The load codes of a zone by its records (R127). -/
def adaptiveCodes (m : NotchMask) (margin : Nat) (z : ZoneRecord) : Vector (Fin 8) 96 :=
  Vector.ofFn (groupCode m margin z)

/-- The ADAPTIVE zone map of a zone (R129). -/
def adaptiveMap (m : NotchMask) (margin : Nat) (z : ZoneRecord) : ZoneMap where
  form := .adaptive
  repetition := 1
  rawCapacity := rawCapacity (adaptiveCodes m margin z)
  codes := adaptiveCodes m margin z

/-- The zone map of a zone at FULL or GUARDED: ADAPTIVE when a group is open, the zone is valid and its
adaptive capacity is at least the ROBUST floor (R129). -/
def planZone (m : NotchMask) (margin : Nat) (z : ZoneRecord) : ZoneMap :=
  if 0 < openGroups m && z.valid && 4 * openGroups m ≤ rawCapacity (adaptiveCodes m margin z) then
    adaptiveMap m margin z
  else robustMap m

/-- The zone maps a plan job computes from its link's channel records (R130). -/
def planZones (job : PlanJob) (channel : List ZoneRecord) : List ZoneMap :=
  match job.grade with
  | .full | .guarded => channel.map (planZone job.notch (effectiveMargin job.grade job.margin))
  | .robust | .unreachable => channel.map fun _ => robustMap job.notch

/-- Effective capacity of a zone map: raw capacity divided by the repetition (R129). -/
def ZoneMap.effective (z : ZoneMap) : Nat := z.rawCapacity / z.repetition

/-- Set capacity (R130). -/
def setCapacity (zones : List ZoneMap) : Nat := (zones.map ZoneMap.effective).sum

/-- Whether some group's load code is lower in the new map (R131). -/
def codeFalls (new held : ZoneMap) : Bool :=
  (List.finRange 96).any fun g => new.codes[g] < held.codes[g]

/-- Condition (a) of R131 in one zone. -/
def loadFalls (new held : ZoneMap) : Bool :=
  (new.form = .adaptive && held.form = .adaptive && codeFalls new held) ||
    new.effective < held.effective

/-- R131: whether a set computed for cause PLAN is published over the held set. -/
def worthPublishing (new held : List ZoneMap) : Bool :=
  (new.zip held).any (fun p => loadFalls p.1 p.2) ||
    setCapacity held < 16 * (setCapacity new - setCapacity held)

/-! ### The fold (R112, R113) -/

/-- One value of a report into the record of its group (R112); the accumulator is in sixteenth-dB. -/
def foldGroup (g : GroupRecord) (snr : Nat) : GroupRecord :=
  if g.seen then
    if g.acc ≤ 4 * snr then { g with acc := g.acc + (4 * snr - g.acc) / 4 }
    else { g with acc := g.acc - (g.acc - 4 * snr) / 4 }
  else ⟨4 * snr, true⟩

/-- Folds values into consecutive groups from one on; values past group 95 have no group. -/
def foldValues (groups : Vector GroupRecord 96) (start : Nat) : List Byte → Vector GroupRecord 96
  | [] => groups
  | v :: rest =>
      foldValues
        (if h : start < 96 then groups.set start (foldGroup groups[start] v.toNat) else groups)
        (start + 1) rest

/-- A report folded into its zone (R112, and R113 steps 1 and 2). -/
def foldZone (r : Report) (z : ZoneRecord) : ZoneRecord where
  valid := true
  sincePlan := min (z.sincePlan + 1) 15
  groups := foldValues z.groups (8 * r.firstBlock) r.values

/-- A cleared zone of channel records (R109). -/
def ZoneRecord.cleared : ZoneRecord := ⟨false, 0, Vector.replicate 96 ⟨0, false⟩⟩

/-- The channel records with one zone changed. A zone that they do not hold changes nothing (DESIGN CHOICE,
notes/assumptions/30.md): a fold reaches that only for a report whose 8-bit generation has come round. -/
def changeZone (zones : List ZoneRecord) (z : Nat) (g : ZoneRecord → ZoneRecord) :
    List ZoneRecord :=
  zones.modify z g

end Sys2Proof.Machine
end

