-- ==== Sys2Proof/Machine/Port.lean ====
section
/-! DEFINITION. Execution and completion of a management command (R186, R187), which every management
command shares, and the reads of the ports (R188). -/
namespace Sys2Proof.Machine

/-- The outcome an owner gives a management command: a completion code and result words (R187). -/
structure Reply where
  code : Completion
  words : List Word
deriving DecidableEq, Repr

/-- Completion OK with result words. -/
def Reply.done (words : List Word) : Reply := ⟨.ok, words⟩

/-- A refusal with no result words. -/
def Reply.refuse (code : Completion) : Reply := ⟨code, []⟩

/-- An owner's answer: the effects it has made, and its reply. -/
abbrev Answer := State × Reply

/-- An owner's refusal: nothing is changed. -/
def State.refused (s : State) (code : Completion) : Answer := (s, Reply.refuse code)

/-- The status word of a reply: the code in the high byte, the number of result words in the low
byte (R187). -/
def Reply.statusWord (r : Reply) : Word := word (256 * completionCode r.code + r.words.length)

/-- Completion of a command (R187): the status word and the result buffer are filled, STATUS_READY is
set, DATA_READY is set when there is a result word, and the port returns to IDLE. The latch and the
parameter list hold the command completed (DESIGN CHOICE, notes/assumptions/6.md, unsafe for a claim about
them). -/
def Mgp.complete (m : Mgp) (code : Byte) (params : List Word) (r : Reply) : Mgp :=
  { m with
    command := .idle
    code := code
    announced := byte params.length
    params := params
    status := r.statusWord
    results := r.words
    readPos := 0
    statusReady := true
    dataReady := r.words ≠ [] }

/-- Whether the port can execute this command now: it is IDLE and the command's words are written
back to back, or it is EXECUTING this very command (DESIGN CHOICE, notes/assumptions/6.md, safe). -/
def Mgp.admits (m : Mgp) (code : Byte) (params : List Word) : Bool :=
  match m.command with
  | .idle => true
  | .collecting => false
  | .executing => m.code = code && m.params = params

/-- Executes a management command with its parameter words: its owner makes the effects, then the
command completes (R187). While another command is collected or executed, the write of its command
word is ignored and sets WRITE_IGNORED (R186). -/
def State.manage (s : State) (code : Byte) (params : List Word) (owner : State → Answer) : State :=
  if s.mgp.admits code params then
    (owner s).1.setMgp ((owner s).1.mgp.complete code params (owner s).2)
  else s.setMgp { s.mgp with writeIgnored := true }

/-- The value a read strobe leaves on BUS_D. -/
def Mgp.drive (m : Mgp) (w : Word) : Mgp := { m with busOut := w }

/-- A status port read (R188). -/
def Mgp.readStatus (m : Mgp) : Mgp :=
  match m.command with
  | .idle => { m with statusReady := false, writeIgnored := false }.drive m.status
  | _ => { m with writeIgnored := false }.drive 0x0100

/-- A data port read (R188). -/
def Mgp.readResult (m : Mgp) : Mgp :=
  match m.results[m.readPos]? with
  | some w =>
      { m with
        readPos := m.readPos + 1
        dataReady := m.dataReady && (m.readPos + 1 < m.results.length) }.drive w
  | none => m.drive 0

/-- A flag port read (R188). -/
def Mgp.readFlags (m : Mgp) : Mgp := m.drive m.flagWord

/-- A read of port 3 (R188). -/
def Mgp.readPort3 (m : Mgp) : Mgp := m.drive 0x0000

/-- A read strobe at a port address (R188, spec/11 section 11.1). The reads of ports 2 and 3 have no row in the
command table: nothing but BUS_D follows from them (notes/assumptions/21.md). -/
def Mgp.readPort (m : Mgp) (address : Fin 4) : Mgp :=
  match address.val with
  | 0 => m.readStatus
  | 1 => m.readResult
  | 2 => m.readFlags
  | _ => m.readPort3

/-- A command port write (R186); with no word announced the command is EXECUTING at once. -/
def Mgp.writeCommand (m : Mgp) (w : Word) : Mgp :=
  match m.command with
  | .idle =>
      { m with
        command := if w.toNat % 256 = 0 then .executing else .collecting
        code := byte (w.toNat / 256)
        announced := byte (w.toNat % 256)
        params := []
        results := []
        readPos := 0
        statusReady := false
        dataReady := false }
  | _ => { m with writeIgnored := true }

/-- A data port write (R186); the announced count reached, the command is EXECUTING. -/
def Mgp.writeParam (m : Mgp) (w : Word) : Mgp :=
  match m.command with
  | .collecting =>
      { m with
        params := m.params ++ [w]
        command := if m.params.length + 1 < m.announced.toNat then .collecting else .executing }
  | _ => { m with writeIgnored := true }

/-- STATUS_READ (R188). -/
def execStatusRead (s : State) : Outcome := .next (s.setMgp (s.mgp.readPort 0))

/-- RESULT_READ (R188). -/
def execResultRead (s : State) : Outcome := .next (s.setMgp (s.mgp.readPort 1))

/-- IGNORED_WRITE: a write to port 2 or 3 changes nothing, WRITE_IGNORED included (R188). -/
def execIgnoredWrite (_port : DeadPort) (_w : Word) (s : State) : Outcome := .next s

end Sys2Proof.Machine
end

