-- ==== Sys2Proof/Machine/Planner.lean ====
section
/-! DEFINITION. Chapter 7, the Planner engine (R116 to R125) with the Map Store's publication (R157,
R158) and the release of a fetch claim (R164 to R166), which completes a waiting plan job; and
chapter 6's fold jobs (R111, R113). -/
namespace Sys2Proof.Machine

/-! ### Offers to the plan queue (R119, R120) -/

/-- Whether a link is queued, in either class (R118). -/
def Planner.queued (p : Planner) (l : LinkNo) : Bool :=
  p.urgent.any (·.link = l) || p.normal.any (·.link = l)

/-- A normal offer (R119). -/
def Planner.offerNormal (p : Planner) (l : LinkNo) : Planner :=
  if p.queued l then p else { p with normal := p.normal ++ [⟨l, .plan⟩] }

/-- An entry already in the urgent class takes a grade cause and keeps its own over NOTCH (R120). -/
def PlanEntry.recause (e : PlanEntry) (l : LinkNo) (cause : Cause) : PlanEntry :=
  if e.link = l && cause ≠ .notch then { e with cause := cause } else e

/-- An urgent offer (R120). -/
def Planner.offerUrgent (p : Planner) (l : LinkNo) (cause : Cause) : Planner :=
  if p.urgent.any (·.link = l) then { p with urgent := p.urgent.map (·.recause l cause) }
  else
    { p with
      normal := p.normal.filter (·.link ≠ l)
      urgent := p.urgent ++ [⟨l, cause⟩] }

/-- A link is taken off the plan queue (R121). -/
def Planner.forget (p : Planner) (l : LinkNo) : Planner :=
  { p with urgent := p.urgent.filter (·.link ≠ l), normal := p.normal.filter (·.link ≠ l) }

/-- A normal offer to the Channel Planner. -/
def State.offerPlan (s : State) (l : LinkNo) : State := s.setPlanner (s.planner.offerNormal l)

/-- An urgent offer to the Channel Planner. -/
def State.offerUrgent (s : State) (l : LinkNo) (cause : Cause) : State :=
  s.setPlanner (s.planner.offerUrgent l cause)

/-! ### Publication at the Map Store (R157, R158) -/

/-- The switch countdown a cause calls for (R157). -/
def countdownOf : Cause → Nat
  | .stepDown => 1
  | _ => 2

/-- The NEXT set of a link after a publication: staged anew (R157), or replaced within its version with
the smaller countdown (R158). -/
def Link.staged (k : Link) (zones : List ZoneMap) (grade : Grade) (cause : Cause) : NextSet :=
  match k.next with
  | none => ⟨⟨k.active.version + 1, grade, zones⟩, countdownOf cause⟩
  | some n => ⟨⟨n.maps.version, grade, zones⟩, min n.countdown (countdownOf cause)⟩

/-- A link after a publication, with its pending cause (R157, R158). -/
def Link.publish (k : Link) (zones : List ZoneMap) (grade : Grade) (cause : Cause) : Link :=
  { k with
    next := some (k.staged zones grade cause)
    record := { k.record with pendingCause := some cause } }

/-- Publishes a set for a LIVE link and offers MAP_NEXT (R132, R157, R158, R162). -/
def State.publish (s : State) (l : LinkNo) (k : Link) (zones : List ZoneMap) (grade : Grade)
    (cause : Cause) : State :=
  (s.setLink l (some (k.publish zones grade cause))).offerGeneral k.record.feed
    (.mapNext l (k.staged zones grade cause).maps.version (k.staged zones grade cause).countdown cause)

/-! ### Completion of a plan job (R124, R125) -/

/-- The zone maps of a link's held set: NEXT if one is pending, ACTIVE otherwise (R131). -/
def Link.held (k : Link) : List ZoneMap :=
  match k.next with
  | some n => n.maps.zones
  | none => k.active.zones

/-- Whether a completing job's set is published: the link is LIVE with the job's generation and grade,
and a PLAN set passes the hysteresis (R125). A STEP_DOWN job whose link an evaluation has stepped down first is
discarded, as R125 and R136 say, where R152 speaks of a staged set (DESIGN CHOICE, notes/assumptions/31.md). -/
def PlanJob.publishes (job : PlanJob) (zones : List ZoneMap) (k : Link) : Bool :=
  k.record.generation = job.generation && k.record.grade = job.grade &&
    (job.cause ≠ .plan || worthPublishing zones k.held)

/-- A plan job completes: it is judged against its link, its set published or discarded, and the engine
becomes IDLE (R125). -/
def State.completePlan (s : State) (job : PlanJob) (zones : List ZoneMap) : State :=
  let s1 := s.setPlanner { s.planner with engine := .idle }
  match s.link job.link with
  | some k => if job.publishes zones k then s1.publish job.link k zones job.grade job.cause else s1
  | none => s1

/-- Whether the Map Store holds a fetch claim on a link (R124). -/
def State.claimedLink (s : State) (l : LinkNo) : Bool :=
  feeds.any fun f => (s.claims.get f).any (·.link = l)

/-- Whether the release of a claim completes a plan job that waits on its link number: at once when the claim is
on the job's own link (R164, R165), and otherwise, where a claim of another generation has held the job back, once
no claim is left on the number: DEDUCED (notes/assumptions/18.md), unsafe only where two cycle links hold a claim on
one link number. -/
def PlanJob.freedBy (job : PlanJob) (c : FetchClaim) (claimed : Bool) : Bool :=
  job.link = c.link && (c.generation = job.generation || !claimed)

/-- The release of the fetch claim of cycle link f, which frees a kept set and completes a plan job that
waits for it (R124, R164 to R166). -/
def State.releaseClaim (s : State) (f : Feed) : State :=
  match s.claims.get f with
  | none => s
  | some c =>
      let s1 := s.setClaim f none
      match s.planner.engine with
      | .waitingClaim job zones =>
          if job.freedBy c (s1.claimedLink c.link) then s1.completePlan job zones else s1
      | _ => s1

/-! ### Taking plan jobs (R122, R123) -/

/-- Every zone's reports-since-plan reset to 0 (R122). -/
def Link.resetSincePlan (k : Link) : Link :=
  { k with channel := k.channel.map fun z => { z with sincePlan := 0 } }

/-- The head of the plan queue, with the queue that is left (R117). -/
def Planner.nextPlan (p : Planner) : Option (PlanEntry × Planner) :=
  match p.urgent, p.normal with
  | e :: rest, _ => some (e, { p with urgent := rest })
  | [], e :: rest => some (e, { p with normal := rest })
  | [], [] => none

/-- Whether a job of cause PLAN ends at its taking (R123). -/
def PlanJob.endsAtOnce (job : PlanJob) : Bool :=
  job.cause = .plan && (job.grade = .robust || job.grade = .unreachable)

/-- The job taken for a queue entry from its link as it stands (R122). -/
def State.jobFor (s : State) (e : PlanEntry) (k : Link) : PlanJob :=
  ⟨e.link, e.cause, k.record.generation, k.record.grade, k.record.margin, s.notch.get k.record.feed⟩

/-- The engine takes the head plan job (R122, R123); its set is that of the records as they stand
(R126 to R130): DEDUCED (notes/assumptions/16.md), safe. An entry of a FREE link does not occur (R121); it is
dropped. -/
def State.takePlan (s : State) (e : PlanEntry) (rest : Planner) : State :=
  match s.link e.link with
  | none => s.setPlanner rest
  | some k =>
      let job := s.jobFor e k
      (s.setLink e.link (some k.resetSincePlan)).setPlanner
        (if job.endsAtOnce then rest
         else { rest with engine := .planning job (planZones job k.channel) })

/-- PLAN_JOB_TAKE: the idle engine takes the head plan job when no fold waits (R117, R122). -/
def execPlanJobTake (s : State) : Outcome :=
  .next <|
    match s.planner.engine, s.planner.foldQueue with
    | .idle, [] =>
        match s.planner.nextPlan with
        | some (e, rest) => s.takePlan e rest
        | none => s
    | _, _ => s

/-- PLAN_COMPUTE_END: the job completes at once, or waits for the claim on its link (R124). -/
def execPlanComputeEnd (s : State) : Outcome :=
  .next <|
    match s.planner.engine with
    | .planning job zones =>
        if s.claimedLink job.link then
          s.setPlanner { s.planner with engine := .waitingClaim job zones }
        else s.completePlan job zones
    | _ => s

/-! ### Fold jobs (R111, R113) -/

/-- A report buffer of a CLC. -/
def Clc.buffer (c : Clc) : BufNo → Buffer
  | .b0 => c.buf0
  | .b1 => c.buf1

/-- Replaces a report buffer of a CLC. -/
def Clc.setBuffer (c : Clc) (b : BufNo) (x : Buffer) : Clc :=
  match b with
  | .b0 => { c with buf0 := x }
  | .b1 => { c with buf1 := x }

/-- Replaces a report buffer of the part. -/
def State.setBuffer (s : State) (r : BufRef) (x : Buffer) : State :=
  s.setClc r.feed ((s.clc.get r.feed).setBuffer r.buf x)

/-- A buffer's move from FULL to FOLDING (R97). -/
def Buffer.startFold : Buffer → Buffer
  | .full r => .folding r
  | b => b

/-- FOLD_JOB_TAKE: the idle engine takes the head of the fold queue (R111, R117). -/
def execFoldJobTake (s : State) : Outcome :=
  .next <|
    match s.planner.engine, s.planner.foldQueue with
    | .idle, r :: rest =>
        (s.setBuffer r ((s.clc.get r.feed).buffer r.buf).startFold).setPlanner
          { s.planner with engine := .folding r, foldQueue := rest }
    | _, _ => s

/-- Whether a zone's reports-since-plan stands at or above the link's plan threshold (R113). -/
def Link.reachesThreshold (k : Link) (zone : Nat) : Bool :=
  match k.channel[zone]? with
  | some z => k.record.threshold ≤ z.sincePlan
  | none => false

/-- A report folded into a LIVE link of its generation: records, then the plan offer (R112, R113). A report for a
zone that the link does not hold writes no record and offers nothing (DESIGN CHOICE, notes/assumptions/30.md). -/
def State.foldReport (s : State) (r : Report) (k : Link) : State :=
  let k' : Link := { k with channel := changeZone k.channel r.zone (foldZone r) }
  let s1 := s.setLink r.link (some k')
  if k'.reachesThreshold r.zone then s1.offerPlan r.link else s1

/-- The fold of a report at its completion: written, or discarded when the link is FREE or of another
generation (R111). -/
def State.endFold (s : State) (r : Report) : State :=
  match s.link r.link with
  | some k => if k.record.generation = r.generation then s.foldReport r k else s
  | none => s

/-- FOLD_COMPLETE: the fold ends, its buffer becomes FREE and the engine IDLE (R111). -/
def execFoldComplete (s : State) : Outcome :=
  .next <|
    match s.planner.engine with
    | .folding b =>
        let s1 :=
          match (s.clc.get b.feed).buffer b.buf with
          | .folding r => s.endFold r
          | _ => s
        (s1.setBuffer b .free).setPlanner { s1.planner with engine := .idle }
    | _ => s

/-! ### PLAN_NOW (R135) -/

/-- R135 at its owner. -/
def planNow (link : Word) (s : State) : Answer :=
  match finOf 128 link.toNat with
  | none => s.refused .badParam
  | some l =>
      match s.link l with
      | none => s.refused .noLink
      | some _ => (s.offerPlan l, Reply.done [word (bit (s.planner.queued l))])

/-- PLAN_NOW (R135). -/
def execPlanNow (link : Word) (s : State) : Outcome := .next (s.manage 0x33 [link] (planNow link))

/-! ### CHANNEL_READ (R114) -/

/-- The accumulator word of a group: 65,535 when it has not been seen (R114). -/
def GroupRecord.readWord (g : GroupRecord) : Word := if g.seen then word g.acc else 65535

/-- The ten result words of a block of a zone (R114). -/
def ZoneRecord.readBlock (z : ZoneRecord) (b : Fin 12) : List Word :=
  [word (bit z.valid), word z.sincePlan] ++
    (List.finRange 8).map fun i => (z.groups[8 * b.val + i.val]'(by omega)).readWord

/-- R114 at its owner. -/
def channelRead (link zone block : Word) (s : State) : Answer :=
  match finOf 128 link.toNat, finOf 6 zone.toNat, finOf 12 block.toNat with
  | some l, some z, some b =>
      match s.link l with
      | none => s.refused .noLink
      | some k =>
          match k.channel[z.val]? with
          | some r =>
              if z.val < s.zoneCount k.record.feed then (s, Reply.done (r.readBlock b))
              else s.refused .badParam
          | none => s.refused .badParam
  | _, _, _ => s.refused .badParam

/-- CHANNEL_READ (R114). -/
def execChannelRead (link zone block : Word) (s : State) : Outcome :=
  .next (s.manage 0x34 [link, zone, block] (channelRead link zone block))

end Sys2Proof.Machine
end

