-- ==== Sys2Proof/Machine/Grades.lean ====
section
/-! DEFINITION. Chapter 8, the Link Supervisor: delivery reports, evaluation, grade changes (R141 to R151),
LINK_SET and LINK_READ (R153, R154); with the streams a grade change reaches (R90, R93). -/
namespace Sys2Proof.Machine

/-! ### Streams and their links (R90, R93) -/

/-- The link of a stream, derived from its ends: from a local station the downlink of the receiver, to a
local station the uplink of the transmitter, none between remote stations (R90). -/
def StreamEnds.link (e : StreamEnds) : Option LinkNo :=
  match localFeed e.transmitter, localFeed e.receiver with
  | some _, none => some (downlink e.receiver)
  | none, some _ => some (uplink e.transmitter)
  | _, _ => none

/-- An ACTIVE stream of a link becomes SUSPENDED (R93). -/
def Stream.suspend (t : Stream) (l : LinkNo) : Stream :=
  match t.state with
  | .active e => if e.link = some l then { t with state := .suspended e } else t
  | _ => t

/-- A SUSPENDED stream of a link becomes ACTIVE (R93). -/
def Stream.resume (t : Stream) (l : LinkNo) : Stream :=
  match t.state with
  | .suspended e => if e.link = some l then { t with state := .active e } else t
  | _ => t

/-- Changes every stream of the table. -/
def State.eachStream (s : State) (g : Stream → Stream) : State :=
  { s with streams := Vector.ofFn fun n => g s.streams[n] }

/-- A grade change at the Membership Table (R93). -/
def State.streamsFollow (s : State) (l : LinkNo) (old new : Grade) : State :=
  if new = .unreachable then s.eachStream (·.suspend l)
  else if old = .unreachable then s.eachStream (·.resume l)
  else s

/-! ### Evaluation (R144 to R148) -/

/-- The total of the tally (R144). -/
def LinkRecord.total (r : LinkRecord) : Nat := r.ok + r.failed

/-- At most 1 failure in 64 (R144). -/
def LinkRecord.clean (r : LinkRecord) : Bool := r.failed * 64 ≤ r.total

/-- More than 1 failure in 8 (R144). -/
def LinkRecord.stepsDown (r : LinkRecord) : Bool := r.total < r.failed * 8

/-- More than 1 failure in 4 (R144). -/
def LinkRecord.bad (r : LinkRecord) : Bool := r.total < r.failed * 4

/-- At most 1 failure in 16 (R144). -/
def LinkRecord.recovered (r : LinkRecord) : Bool := r.failed * 16 ≤ r.total

/-- The verdict of an evaluation: grade and runs after it, and whether it escalated (R145 to R148). -/
structure Verdict where
  grade : Grade
  goodRun : Nat
  badRun : Nat
  escalated : Bool
deriving DecidableEq, Repr

/-- A link at FULL or GUARDED, `down` one grade below and `up` what four clean evaluations in a row
reach: R145, with R148's escalation over a pending STEP_DOWN. -/
def LinkRecord.judgeAdaptive (r : LinkRecord) (down up : Grade) : Verdict :=
  if r.stepsDown then
    if r.pendingCause = some .stepDown then ⟨.robust, 0, r.badRun, true⟩
    else ⟨down, 0, r.badRun, false⟩
  else if r.clean then
    if r.goodRun + 1 = 4 then ⟨up, 0, r.badRun, false⟩
    else ⟨r.grade, r.goodRun + 1, r.badRun, false⟩
  else ⟨r.grade, 0, r.badRun, false⟩

/-- A link at ROBUST (R146). -/
def LinkRecord.judgeRobust (r : LinkRecord) : Verdict :=
  if r.clean then
    if r.goodRun + 1 = 4 then ⟨.guarded, 0, 0, false⟩ else ⟨.robust, r.goodRun + 1, 0, false⟩
  else if r.bad then
    if r.badRun + 1 = 2 then ⟨.unreachable, 0, 0, false⟩ else ⟨.robust, 0, r.badRun + 1, false⟩
  else ⟨.robust, 0, 0, false⟩

/-- A link at UNREACHABLE (R147). -/
def LinkRecord.judgeUnreachable (r : LinkRecord) : Verdict :=
  if r.recovered then ⟨.robust, 0, 0, false⟩ else ⟨.unreachable, 0, 0, false⟩

/-- The verdict of an evaluation at the link's grade (R145 to R148). -/
def LinkRecord.judge (r : LinkRecord) : Verdict :=
  match r.grade with
  | .full => r.judgeAdaptive .guarded .full
  | .guarded => r.judgeAdaptive .robust .full
  | .robust => r.judgeRobust
  | .unreachable => r.judgeUnreachable

/-- The record after an evaluation: the verdict taken, the tally emptied, periods 0 (R144, R149). -/
def LinkRecord.evaluated (r : LinkRecord) : LinkRecord :=
  { r with
    grade := r.judge.grade
    goodRun := r.judge.goodRun
    badRun := r.judge.badRun
    ok := 0
    failed := 0
    periods := 0 }

/-- The cause a grade change offers: STEP_DOWN to a more robust grade, STEP_UP to a more capable one
(R149). -/
def changeCause (old new : Grade) : Cause :=
  if gradeCode old < gradeCode new then .stepDown else .stepUp

/-- A grade change handed on: streams, urgent plan offer, LINK_GRADE notice, LINK_GRADE event, in that
order (R149, R150, R151). -/
def State.announceGrade (s : State) (l : LinkNo) (old : LinkRecord) (trigger : Trigger)
    (zone : Option Nat) : State :=
  let new := old.judge.grade
  ((((s.streamsFollow l old.grade new).offerUrgent l (changeCause old.grade new)).offerGeneral old.feed
    (.linkGrade l old.grade new trigger old.judge.escalated zone))).offerEvent
    (.linkGrade l old.grade new)

/-- An evaluation of a LIVE link (R144, R149). -/
def State.evaluate (s : State) (l : LinkNo) (k : Link) (trigger : Trigger) (zone : Option Nat) :
    State :=
  let s1 := s.setRecord l k k.record.evaluated
  if k.record.judge.grade = k.record.grade then s1 else s1.announceGrade l k.record trigger zone

/-! ### Delivery reports (R141, R142) -/

/-- Whether a report is tallied: always, but at UNREACHABLE only a PROBE report (R142). -/
def LinkRecord.tallies (r : LinkRecord) (probe : Bool) : Bool := r.grade ≠ .unreachable || probe

/-- The record with a report added to the tally (R142). -/
def LinkRecord.tally (r : LinkRecord) (ok failed : Nat) : LinkRecord :=
  { r with
    ok := min (r.ok + ok) Config.countCap
    failed := min (r.failed + failed) Config.countCap }

/-- The evaluation span of a grade (R142). -/
def evaluationSpan : Grade → Nat
  | .unreachable => 32
  | _ => 256

/-- A report tallied for a LIVE link, and evaluated when the span is reached (R142). -/
def State.tallyReport (s : State) (l : LinkNo) (k : Link) (zone ok failed : Nat) : State :=
  let r := k.record.tally ok failed
  if evaluationSpan r.grade ≤ r.total then
    s.evaluate l { k with record := r } .report (some zone)
  else s.setRecord l k r

/-- The grade of a link as it stands, FULL standing for a FREE link. -/
def State.gradeOf (s : State) (l : LinkNo) : Grade :=
  match s.link l with
  | some k => k.record.grade
  | none => .full

/-- A DELIVERY_REPORT taken on cycle link f (R141, R142); the response carries the grade that results. -/
def State.deliver (s : State) (f : Feed) (tag link zone : Byte) (ok failed : Word) (flags : Byte) :
    State :=
  match s.linkOn f link with
  | none => s.refuse f tag .noLink
  | some (l, k) =>
      if s.zoneCount f ≤ zone.toNat || 1023 < ok.toNat || 1023 < failed.toNat then
        s.refuse f tag .badParam
      else if k.record.tallies (flags.getLsbD 0) then
        let s1 := s.tallyReport l k zone.toNat ok.toNat failed.toNat
        s1.respond f tag (.acceptedDelivery (s1.gradeOf l) true)
      else s.respond f tag (.acceptedDelivery k.record.grade false)

/-- DELIVERY_REPORT (R141, R142, R173, R175). -/
def execDeliveryReport (f : Feed) (tag link zone : Byte) (ok failed : Word) (flags : Byte)
    (s : State) : Outcome :=
  .next (s.takeFrame f fun t => t.deliver f tag link zone ok failed flags)

/-! ### The beacon boundary at the Link Supervisor (R143) -/

/-- Periods since evaluation after one more boundary (R143). -/
def LinkRecord.nextPeriod (r : LinkRecord) : LinkRecord := { r with periods := min (r.periods + 1) 16 }

/-- Whether the idle trigger fires (R143). -/
def LinkRecord.idleDue (r : LinkRecord) : Bool := r.periods = 16 && 32 ≤ r.total

/-- A beacon boundary reaches one link (R143). -/
def State.idleLink (s : State) (l : LinkNo) : State :=
  match s.link l with
  | none => s
  | some k =>
      let r := k.record.nextPeriod
      if r.idleDue then s.evaluate l { k with record := r } .idle none else s.setRecord l k r

/-- A beacon boundary of feed f reaches each LIVE link of the feed in increasing order (R143). -/
def State.superviseBoundary (s : State) (f : Feed) : State :=
  s.forEach (s.liveLinks f) State.idleLink

/-! ### LINK_SET and LINK_READ (R153, R154) -/

/-- R153 at its owner. -/
def linkSet (link margin threshold : Word) (s : State) : Answer :=
  match finOf 128 link.toNat with
  | none => s.refused .badParam
  | some l =>
      match s.link l with
      | none => s.refused .noLink
      | some k =>
          let m := min margin.toNat 63
          let t := max 1 (min threshold.toNat 15)
          (s.setRecord l k { k.record with margin := m, threshold := t },
            Reply.done [word m, word t])

/-- LINK_SET (R153). -/
def execLinkSet (link margin threshold : Word) (s : State) : Outcome :=
  .next (s.manage 0x30 [link, margin, threshold] (linkSet link margin threshold))

/-- The 17 result words of LINK_READ (R154). -/
def linkWords (r : LinkRecord) (m : NotchMask) : List Word :=
  [word (feedIndex r.feed), word r.generation.toNat, word (gradeCode r.grade), word r.margin,
   word r.threshold, word r.ok, word r.failed, word r.goodRun, word r.badRun, word r.periods,
   word (causeCode r.pendingCause)] ++ wordsOfMask m

/-- R154 at its owner. -/
def linkRead (link : Word) (s : State) : Answer :=
  match finOf 128 link.toNat with
  | none => s.refused .badParam
  | some l =>
      match s.link l with
      | none => s.refused .noLink
      | some k => (s, Reply.done (linkWords k.record (s.notch.get k.record.feed)))

/-- LINK_READ (R154). -/
def execLinkRead (link : Word) (s : State) : Outcome := .next (s.manage 0x31 [link] (linkRead link))

/-! ### NOTCH_SET (R134) -/

/-- R134 at its owner: the mask, then an urgent NOTCH offer for each LIVE link of the feed. -/
def notchSet (feed w1 w2 w3 w4 w5 w6 : Word) (s : State) : Answer :=
  match feedOf feed with
  | none => s.refused .badParam
  | some f =>
      let s1 : State := { s with notch := s.notch.set f (maskOfWords w1 w2 w3 w4 w5 w6) }
      (s1.forEach (s.liveLinks f) fun t l => t.offerUrgent l .notch,
        Reply.done [word (s.liveLinks f).length])

/-- NOTCH_SET (R134). -/
def execNotchSet (feed w1 w2 w3 w4 w5 w6 : Word) (s : State) : Outcome :=
  .next (s.manage 0x02 [feed, w1, w2, w3, w4, w5, w6] (notchSet feed w1 w2 w3 w4 w5 w6))

end Sys2Proof.Machine
end

