-- ==== Sys2Proof/Machine/Maps.lean ====
section
/-! DEFINITION. Chapter 9, the Map Store: the switch countdown and switchover (R159, R160), MAP_FETCH
(R163, R164), the sets of a removed link (R165, R166) and MAP_READ (R168). -/
namespace Sys2Proof.Machine

/-! ### Countdown and switchover (R159, R160, R165) -/

/-- A claim after a switchover of its link: a claimed NEXT set is ACTIVE now, a claimed ACTIVE set is
retired and kept for the claim (R160, R165). -/
def FetchClaim.switched (c : FetchClaim) (l : LinkNo) (old : MapSet) : FetchClaim :=
  if c.link = l then
    match c.named with
    | .next => { c with named := .active }
    | .active => { c with named := .kept old }
    | .kept _ => c
  else c

/-- Changes every fetch claim held. -/
def State.eachClaim (s : State) (g : FetchClaim → FetchClaim) : State :=
  { s with claims := ⟨s.claims.a.map g, s.claims.b.map g, s.claims.c.map g⟩ }

/-- A link after its switchover (R160). -/
def Link.switch (k : Link) (n : NextSet) : Link :=
  { k with active := n.maps, next := none, record := { k.record with pendingCause := none } }

/-- Switchover of a link, with MAP_SWITCHED (R160, R162). -/
def State.switchLink (s : State) (l : LinkNo) (k : Link) (n : NextSet) : State :=
  ((s.setLink l (some (k.switch n))).eachClaim (·.switched l k.active)).offerGeneral k.record.feed
    (.mapSwitched l n.maps.version n.maps.grade)

/-- A beacon boundary reaches one link: its countdown is decremented, and at 0 it switches over (R159). -/
def State.countLink (s : State) (l : LinkNo) : State :=
  match s.link l with
  | none => s
  | some k =>
      match k.next with
      | none => s
      | some n =>
          if n.countdown ≤ 1 then s.switchLink l k n
          else s.setLink l (some { k with next := some { n with countdown := n.countdown - 1 } })

/-- A beacon boundary of feed f reaches each LIVE link of the feed in increasing order (R159). -/
def State.storeBoundary (s : State) (f : Feed) : State := s.forEach (s.liveLinks f) State.countLink

/-! ### MAP_FETCH (R163, R164) -/

/-- The set of a link that holds a version: ACTIVE or NEXT, NEXT's version being another (R157, R163). -/
def Link.versioned (k : Link) (v : Byte) : Option ClaimedSet :=
  if v.toNat = k.active.version.toNat then some .active
  else if k.next.any (fun n => v.toNat = n.maps.version.toNat) then some .next
  else none

/-- A MAP_FETCH taken on cycle link f (R163, R164). -/
def State.fetch (s : State) (f : Feed) (tag link version zone : Byte) : State :=
  match s.linkOn f link with
  | none => s.refuse f tag .noLink
  | some (l, k) =>
      match k.versioned version with
      | none => s.respond f tag (.refusedStale k.active.version (k.next.map (·.maps.version)))
      | some named =>
          if s.zoneCount f ≤ zone.toNat then s.refuse f tag .badParam
          else (s.setClaim f (some ⟨l, k.record.generation, zone.toNat, named⟩)).respond f tag .mapData

/-- MAP_FETCH (R163, R164, R173, R175). -/
def execMapFetch (f : Feed) (tag link version zone : Byte) (s : State) : Outcome :=
  .next (s.takeFrame f fun t => t.fetch f tag link version zone)

/-! ### Removal of a link (R165, R166) -/

/-- A claim after its link is removed: the claimed set is kept for it (R165). -/
def FetchClaim.orphaned (c : FetchClaim) (l : LinkNo) (k : Link) : FetchClaim :=
  if c.link = l then
    match c.named with
    | .active => { c with named := .kept k.active }
    | .next =>
        match k.next with
        | some n => { c with named := .kept n.maps }
        | none => c
    | .kept _ => c
  else c

/-- A link's sets are freed, but for one a claim names (R166), and the link becomes FREE (R85). -/
def State.freeLink (s : State) (l : LinkNo) : State :=
  match s.link l with
  | none => s
  | some k => (s.setLink l none).eachClaim (·.orphaned l k)

/-! ### MAP_READ (R168) -/

/-- The word of four load codes from one group on (R168). -/
def codeWord (z : ZoneMap) (j : Fin 24) : Word :=
  word ((z.codes[4 * j.val]'(by omega)).val + 16 * (z.codes[4 * j.val + 1]'(by omega)).val
    + 256 * (z.codes[4 * j.val + 2]'(by omega)).val
    + 4096 * (z.codes[4 * j.val + 3]'(by omega)).val)

/-- The 32 result words of MAP_READ (R168). -/
def mapWords (m : MapSet) (countdown cause : Nat) (z : ZoneMap) : List Word :=
  [word m.version.toNat, word (gradeCode m.grade), word countdown, word cause,
   word (formCode z.form), word z.repetition, word z.rawCapacity, word z.effective] ++
    (List.finRange 24).map (codeWord z)

/-- R168 once the link is known to be LIVE: check 3, check 4, and the words of the zone. -/
def readMap (s : State) (k : Link) (role zone : Nat) : Answer :=
  if s.zoneCount k.record.feed ≤ zone then s.refused .badParam
  else if role = 0 then
    match k.active.zones[zone]? with
    | some z => (s, Reply.done (mapWords k.active 0 0 z))
    | none => s.refused .badParam
  else
    match k.next with
    | none => s.refused .noEntry
    | some n =>
        match n.maps.zones[zone]? with
        | some z => (s, Reply.done (mapWords n.maps n.countdown (causeCode k.record.pendingCause) z))
        | none => s.refused .badParam

/-- R168 at its owner. -/
def mapRead (link role zone : Word) (s : State) : Answer :=
  match finOf 128 link.toNat, finOf 2 role.toNat, finOf 6 zone.toNat with
  | some l, some r, some z =>
      match s.link l with
      | none => s.refused .noLink
      | some k => readMap s k r.val z.val
  | _, _, _ => s.refused .badParam

/-- MAP_READ (R168). -/
def execMapRead (link role zone : Word) (s : State) : Outcome :=
  .next (s.manage 0x32 [link, role, zone] (mapRead link role zone))

end Sys2Proof.Machine
end

