-- ==== Sys2Proof/Machine/Schedule.lean ====
section
/-! DEFINITION. Chapter 2, the window schedule: claim classes (R23), the schedule check (R31), references
(R33), activation and exchange (R34 to R38), and the editing commands (R28 to R30). -/
namespace Sys2Proof.Machine

/-! ### Banks (R22) -/

/-- The other bank number. -/
def BankNo.other : BankNo → BankNo
  | .b0 => .b1
  | .b1 => .b0

/-- The number of a bank. -/
def bankCode : BankNo → Nat
  | .b0 => 0
  | .b1 => 1

/-- A bank by number. -/
def Csq.bank (q : Csq) : BankNo → Bank
  | .b0 => q.bank0
  | .b1 => q.bank1

/-- Replaces a bank. -/
def Csq.setBank (q : Csq) (n : BankNo) (b : Bank) : Csq :=
  match n with
  | .b0 => { q with bank0 := b }
  | .b1 => { q with bank1 := b }

/-- The current bank. -/
def Csq.currentBank (q : Csq) : Bank := q.bank q.current

/-- The number of the pending bank. -/
def Csq.pendingNo (q : Csq) : BankNo := q.current.other

/-- The pending bank. -/
def Csq.pendingBank (q : Csq) : Bank := q.bank q.pendingNo

/-- The slots below the window count: the bank's windows, in slot order (R22). -/
def Bank.slotList (b : Bank) : List SlotNo := (List.finRange 32).filter (·.val < b.count.val)

/-- A slot's record. -/
def Bank.slot (b : Bank) (n : SlotNo) : Window := b.slots[n]

/-! ### Claim classes (R23) -/

/-- The claim class of a window on a feed, from the present state of its stream (R23). -/
def State.claimClass (s : State) (f : Feed) (w : Window) : ClaimClass :=
  match w.kind with
  | .beacon => some .beacon
  | .probe _ => some .hard
  | .shared => some .soft
  | .quiet => none
  | .reserved n =>
      match (s.stream n).state with
      | .active e => if e.transmitter = localStation f then some .hard else none
      | _ => none

/-! ### The schedule check (R31) -/

/-- The outcome of the schedule check (R31). -/
inductive CheckResult where
  | pass
  | noSchedule
  | badSchedule (slot : SlotNo)
deriving DecidableEq, Repr

/-- One position is earlier than another (R21). -/
def Window.before (w v : Window) : Bool :=
  w.half.val < v.half.val || (w.half = v.half && w.phase.val < v.phase.val)

/-- Whether the target of a window satisfies R31 on a feed. -/
def State.targetPasses (s : State) (f : Feed) (k : WindowKind) : Bool :=
  match k with
  | .reserved n =>
      match (s.stream n).state.ends with
      | some e => s.memberOn e.transmitter f && s.memberOn e.receiver f
      | none => false
  | .probe n => 3 ≤ n.val && s.memberOn n f
  | _ => true

/-- Whether slot i of a bank satisfies the position condition of R31. -/
def Bank.positionPasses (b : Bank) (beaconLen : Nat) (i : SlotNo) : Bool :=
  if h : i.val = 0 then
    (b.slot i).kind = .beacon && (b.slot i).half.val = 0 && (b.slot i).phase.val = 0
  else
    (b.slot i).half.val < beaconLen && (b.slot ⟨i.val - 1, by omega⟩).before (b.slot i)

/-- Whether slot i of a bank passes (R31). -/
def State.slotPasses (s : State) (f : Feed) (b : Bank) (beaconLen : Nat) (i : SlotNo) : Bool :=
  b.positionPasses beaconLen i && s.targetPasses f (b.slot i).kind

/-- The schedule check of a bank of feed f (R31). -/
def State.checkBank (s : State) (f : Feed) (b : Bank) : CheckResult :=
  if b.count.val = 0 then .noSchedule
  else
    match b.slotList.find? fun i => !s.slotPasses f b (s.csq.get f).beaconLen i with
    | some i => .badSchedule i
    | none => .pass

/-- The reply to a failed schedule check (R34, R43). -/
def CheckResult.refusal : CheckResult → Reply
  | .badSchedule i => ⟨.badSchedule, [word i.val]⟩
  | _ => ⟨.noSchedule, []⟩

/-! ### References (R33) -/

/-- Counts the reference of one window. -/
def State.holdWindow (s : State) (w : Window) : State :=
  match w.kind with
  | .reserved n => s.holdStream n
  | .probe n => s.holdStation n
  | _ => s

/-- Hands back the reference of one window. -/
def State.dropWindow (s : State) (w : Window) : State :=
  match w.kind with
  | .reserved n => s.dropStream n
  | .probe n => s.dropStation n
  | _ => s

/-- Counts a bank (R33). -/
def State.countBank (s : State) (b : Bank) : State :=
  s.forEach b.slotList fun t i => t.holdWindow (b.slot i)

/-- Releases a bank (R33). -/
def State.releaseBank (s : State) (b : Bank) : State :=
  s.forEach b.slotList fun t i => t.dropWindow (b.slot i)

/-- A COUNTING pending bank returns to EDIT and is released; in EDIT nothing happens (R38, R40, R41). -/
def State.cancelPending (s : State) (f : Feed) : State :=
  match (s.csq.get f).pendingState with
  | .edit => s
  | .counting _ =>
      (s.releaseBank (s.csq.get f).pendingBank).setCsq f { s.csq.get f with pendingState := .edit }

/-- The exchange of roles: the pending bank becomes current and the old current bank pending in EDIT,
with a SCHEDULE_SWAPPED event (R35, R37). -/
def State.exchangeRoles (s : State) (f : Feed) : State :=
  let q := s.csq.get f
  ((s.releaseBank q.currentBank).setCsq f
    { q with current := q.pendingNo, pendingState := .edit }).offerEvent
      (.scheduleSwapped f q.beaconCount)

/-! ### Editing (R28, R29, R30) -/

/-- R28 at its owner. -/
def windowWrite (feed slot half phase kind target : Word) (s : State) : Answer :=
  match feedOf feed, finOf 32 slot.toNat, finOf 8 half.toNat, finOf 256 phase.toNat,
    kindOf kind target with
  | some f, some i, some h, some p, some k =>
      let q := s.csq.get f
      match q.pendingState with
      | .edit =>
          let b := q.pendingBank
          (s.setCsq f (q.setBank q.pendingNo { b with slots := b.slots.set i.val ⟨h, p, k⟩ i.isLt }),
            Reply.done [])
      | .counting _ => s.refused .wrongState
  | _, _, _, _, _ => s.refused .badParam

/-- WINDOW_WRITE (R28). -/
def execWindowWrite (feed slot half phase kind target : Word) (s : State) : Outcome :=
  .next (s.manage 0x10 [feed, slot, half, phase, kind, target]
    (windowWrite feed slot half phase kind target))

/-- R29 at its owner. -/
def windowCount (feed count : Word) (s : State) : Answer :=
  match feedOf feed, finOf 33 count.toNat with
  | some f, some n =>
      let q := s.csq.get f
      match q.pendingState with
      | .edit =>
          (s.setCsq f (q.setBank q.pendingNo { q.pendingBank with count := n }), Reply.done [])
      | .counting _ => s.refused .wrongState
  | _, _ => s.refused .badParam

/-- WINDOW_COUNT (R29). -/
def execWindowCount (feed count : Word) (s : State) : Outcome :=
  .next (s.manage 0x11 [feed, count] (windowCount feed count))

/-- The role and state word of a bank that is read (R30). -/
def PendingState.roleCode : PendingState → Nat
  | .edit => 1
  | .counting _ => 2

/-- The countdown of the pending bank, 0 in EDIT (R30, R46). -/
def PendingState.countdown : PendingState → Nat
  | .edit => 0
  | .counting n => n

/-- The nine result words of WINDOW_READ for a bank number, role word and countdown (R30). -/
def State.windowWords (s : State) (f : Feed) (n : BankNo) (role countdown : Nat) (i : SlotNo) :
    List Word :=
  let b := (s.csq.get f).bank n
  let w := b.slot i
  [word (bankCode n), word role, word countdown, word b.count.val, word w.half.val,
   word w.phase.val, word (kindCode (kindName w.kind)), word (targetCode w.kind),
   word (classCode (s.claimClass f w))]

/-- R30 at its owner. -/
def windowRead (feed role slot : Word) (s : State) : Answer :=
  match feedOf feed, finOf 2 role.toNat, finOf 32 slot.toNat with
  | some f, some r, some i =>
      let q := s.csq.get f
      if r.val = 0 then (s, Reply.done (s.windowWords f q.current 0 0 i))
      else
        (s, Reply.done
          (s.windowWords f q.pendingNo q.pendingState.roleCode q.pendingState.countdown i))
  | _, _, _ => s.refused .badParam

/-- WINDOW_READ (R30). -/
def execWindowRead (feed role slot : Word) (s : State) : Outcome :=
  .next (s.manage 0x12 [feed, role, slot] (windowRead feed role slot))

/-! ### Activation and cancellation (R34 to R36, R38) -/

/-- The countdown word clamped to 1..15 (R34). -/
def clampCountdown (w : Word) : Nat := max 1 (min w.toNat 15)

/-- A passing pending bank activated: exchanged at once in STOPPED (R35), COUNTING otherwise (R36). -/
def State.activate (s : State) (f : Feed) (countdown : Nat) : Answer :=
  let q := s.csq.get f
  let s1 := s.countBank q.pendingBank
  if q.state = .stopped then (s1.exchangeRoles f, Reply.done [0])
  else (s1.setCsq f { q with pendingState := .counting countdown }, Reply.done [word countdown])

/-- R34 at its owner. -/
def scheduleActivate (feed countdown : Word) (s : State) : Answer :=
  match feedOf feed with
  | none => s.refused .badParam
  | some f =>
      match (s.csq.get f).pendingState with
      | .counting _ => s.refused .wrongState
      | .edit =>
          match s.checkBank f (s.csq.get f).pendingBank with
          | .pass => s.activate f (clampCountdown countdown)
          | failed => (s, failed.refusal)

/-- SCHEDULE_ACTIVATE (R34). -/
def execScheduleActivate (feed countdown : Word) (s : State) : Outcome :=
  .next (s.manage 0x13 [feed, countdown] (scheduleActivate feed countdown))

/-- R38 at its owner. -/
def scheduleCancel (feed : Word) (s : State) : Answer :=
  match feedOf feed with
  | none => s.refused .badParam
  | some f => (s.cancelPending f, Reply.done [])

/-- SCHEDULE_CANCEL (R38). -/
def execScheduleCancel (feed : Word) (s : State) : Outcome :=
  .next (s.manage 0x14 [feed] (scheduleCancel feed))

end Sys2Proof.Machine
end

