-- ==== Sys2Proof/Machine/Sequencer.lean ====
section
/-! DEFINITION. Chapter 3, the Cycle Sequencer: starting and stopping (R43, R59), playing an origin (R44 to
R49), window starts (R50, R51), window notices (R52, R54, R55) and the sequencer's answer to a
mains-state change (R56 to R58). -/
namespace Sys2Proof.Machine

/-! ### FEED_STATE (R13, R58) -/

/-- Offers a FEED_STATE notice with the mains state, sequencer state and P as they stand (R58). -/
def State.offerFeedState (s : State) (f : Feed) : State :=
  s.offerGeneral f
    (.feedState f (s.mtu.get f).state (s.csq.get f).state (s.mtu.get f).period)

/-- The sequencer enters a state and offers FEED_STATE (R58). -/
def State.enterSeq (s : State) (f : Feed) (st : SeqState) : State :=
  (s.setCsq f { s.csq.get f with state := st }).offerFeedState f

/-! ### Window notices (R54, R55) -/

/-- The stations a RESERVED window's notice names. -/
def State.streamEnds (s : State) (k : WindowKind) : Option StreamEnds :=
  match k with
  | .reserved n => (s.stream n).state.ends
  | _ => none

/-- What the full and compact notices of a window carry, addresses read from the station table (R54). -/
def State.windowInfo (s : State) (w : Window) (i : SlotNo) (skipped : Bool) : WindowInfo where
  half := w.half
  phase := w.phase
  index := i
  kind := kindName w.kind
  transmitter := (s.streamEnds w.kind).bind fun e => s.addressOf e.transmitter
  receiver := (s.streamEnds w.kind).bind fun e => s.addressOf e.receiver
  probe :=
    match w.kind with
    | .probe n => s.addressOf n
    | _ => none
  skipped := skipped

/-- Offers the WINDOW notice of a slot of the current bank, compact when its class is NONE and its index
not 0 (R54, R55). -/
def State.offerWindow (s : State) (f : Feed) (i : SlotNo) (duration : Nat) (skipped : Bool) : State :=
  let q := s.csq.get f
  let w := q.currentBank.slot i
  let cls := s.claimClass f w
  s.offerTiming f
    (if cls = none ∧ i.val ≠ 0 then .windowShort (s.windowInfo w i skipped)
     else .window q.beaconCount (s.windowInfo w i skipped) cls duration)

/-! ### Window times (R24, R26) -/

/-- Ticks from an origin to the beginning of a phase unit (R14, R24). -/
def phaseTicks (phase estimate : Nat) : Nat := phase * estimate / 256

/-- Estimated duration from (h1, a1) to a following event at (h2, a2), in ticks (R26). -/
def spanTicks (h1 a1 h2 a2 estimate : Nat) : Nat :=
  if h1 = h2 then a2 - a1 else (estimate - a1) + (h2 - h1 - 1) * estimate + a2

/-- The estimated duration of a window of a bank, capped (R26). -/
def Bank.duration (b : Bank) (i : SlotNo) (beaconLen estimate : Nat) : Nat :=
  let a := phaseTicks (b.slot i).phase.val estimate
  min Config.durationCap <|
    if h : i.val + 1 < b.count.val then
      let next := b.slot ⟨i.val + 1, by omega⟩
      spanTicks (b.slot i).half.val a next.half.val (phaseTicks next.phase.val estimate) estimate
    else (estimate - a) + (beaconLen - (b.slot i).half.val - 1) * estimate

/-! ### Claims (R51) -/

/-- The class of a starting window handed to the PDA (R51). The window start time handed is the tick at which the
start is taken, DEDUCED (notes/assumptions/28.md), unsafe for LATE when a long queue holds a start back. -/
def State.handClaim (s : State) (f : Feed) (cls : ClaimClass) (i : SlotNo) : State :=
  let q := s.csq.get f
  match cls, q.heldClaim with
  | some c, none => (s.setCsq f { q with heldClaim := some c }).claimArrives f ⟨c, i, s.now, .waiting⟩
  | some c, some _ => (s.setCsq f { q with heldClaim := some c }).replaceClaim f c i s.now
  | none, some _ => (s.setCsq f { q with heldClaim := none }).releaseDriver f
  | none, none => s

/-- The held claim is withdrawn at the PDA (R51). -/
def State.withdraw (s : State) (f : Feed) : State :=
  match (s.csq.get f).heldClaim with
  | some _ => (s.setCsq f { s.csq.get f with heldClaim := none }).releaseDriver f
  | none => s

/-! ### Window starts (R50) -/

/-- The start of a window is reached (R50): the window in progress ends and window i becomes current; its
class is derived, its notice offered, its claim handed over. -/
def State.startWindow (s : State) (f : Feed) (i : SlotNo) : State :=
  let q := s.csq.get f
  let s1 := s.setCsq f
    { q with currentWindow := some i, armed := q.armed.filter (·.slot ≠ i) }
  let cls := s1.claimClass f (q.currentBank.slot i)
  (s1.offerWindow f i (q.currentBank.duration i q.beaconLen q.halfCycle.estimate) false).handClaim f
    cls i

/-- WINDOW_START: the first armed start of a RUNNING sequencer expires (R49, R50). -/
def execWindowStart (f : Feed) (s : State) : Outcome :=
  .next <|
    match (s.csq.get f).state, (s.csq.get f).armed with
    | .running, a :: _ => if a.time ≤ s.now then s.startWindow f a.slot else s
    | _, _ => s

/-! ### Playing an origin (R44 to R48) -/

/-- Step 1 of R46: each armed start left is announced as skipped, in slot order, and removed. -/
def State.skipUnreached (s : State) (f : Feed) : State :=
  let s1 := s.forEach (s.csq.get f).armed fun t a => t.offerWindow f a.slot 0 true
  s1.setCsq f { s1.csq.get f with armed := [] }

/-- The countdown of a COUNTING bank at a beacon boundary, and the exchange when it reaches 0 (R37, R46). -/
def State.countPending (s : State) (f : Feed) : State :=
  match (s.csq.get f).pendingState with
  | .edit => s
  | .counting n =>
      if n ≤ 1 then s.exchangeRoles f
      else s.setCsq f { s.csq.get f with pendingState := .counting (n - 1) }

/-- Offers BEACON_START (R46 step 3). -/
def State.offerBeaconStart (s : State) (f : Feed) : State :=
  let q := s.csq.get f
  s.offerTiming f
    (.beaconStart q.beaconCount q.halfCycle.estimate q.beaconLen (s.zoneCount f)
      q.pendingState.countdown)

/-- The beacon boundary handed to the Map Store and the Link Supervisor, in either order (R46, R152). Its place,
between BEACON_START and zone 0, is DEDUCED (notes/assumptions/13.md), unsafe for the order of the notices
around it. -/
def State.handBoundary (s : State) (f : Feed) (order : BoundaryOrder) : State :=
  match order with
  | .storeFirst => (s.storeBoundary f).superviseBoundary f
  | .supervisorFirst => (s.superviseBoundary f).storeBoundary f

/-- Step 3 of R46. -/
def State.playBoundary (s : State) (f : Feed) (order : BoundaryOrder) : State :=
  let q := s.csq.get f
  let s1 := s.setCsq f { q with currentWindow := none, beaconCount := q.beaconCount + 1 }
  ((s1.countPending f).offerBeaconStart f).handBoundary f order

/-- Offers a ZONE notice for a zone that begins at a phase position (R48). -/
def State.offerZone (s : State) (f : Feed) (zone phase : Nat) : State :=
  let q := s.csq.get f
  s.offerTiming f (.zone q.halfIndex q.halfCycle.polarity zone phase (s.zoneCount f))

/-- The starts armed for a half index of a bank from an origin (R24, R46 step 5). -/
def Bank.starts (b : Bank) (half t0 estimate : Nat) : List ArmedStart :=
  (b.slotList.filter fun i => (b.slot i).half.val = half).map fun i =>
    ⟨i, t0 + phaseTicks (b.slot i).phase.val estimate⟩

/-- Step 5 of R46: the starts of the new half-cycle are armed, and a window at phase 0 starts at once. -/
def State.armStarts (s : State) (f : Feed) : State :=
  let q := s.csq.get f
  let starts := q.currentBank.starts q.halfIndex q.halfCycle.t0 q.halfCycle.estimate
  let s1 := s.setCsq f { q with armed := starts }
  match starts with
  | a :: _ => if (q.currentBank.slot a.slot).phase.val = 0 then s1.startWindow f a.slot else s1
  | [] => s1

/-- An origin is taken as half index `half` (R46): unreached windows are skipped, the half index and the
half-cycle record taken, a boundary played at half index 0, zone 0 announced, starts armed. -/
def State.playHalf (s : State) (f : Feed) (half : Nat) (o : OriginRecord) (order : BoundaryOrder) :
    State :=
  let s1 := s.skipUnreached f
  let s2 := s1.setCsq f
    { s1.csq.get f with halfIndex := half, halfCycle := ⟨o.t0, o.polarity, o.estimate⟩ }
  let s3 := if half = 0 then s2.playBoundary f order else s2
  (s3.offerZone f 0 0).armStarts f

/-- An origin event at CSQ f (R44, R45): it starts playback in WAITING_SYNC when positive, advances the
half index in RUNNING, and is ignored otherwise. That the entry's FEED_STATE precedes the notices of R46 is
DEDUCED (notes/assumptions/14.md), unsafe for the order of these notices. -/
def State.takeOrigin (s : State) (f : Feed) (o : OriginRecord) (order : BoundaryOrder) : State :=
  let q := s.csq.get f
  match q.state with
  | .running => s.playHalf f ((q.halfIndex + 1) % q.beaconLen) o order
  | .waitingSync =>
      if o.polarity = .positive then (s.enterSeq f .running).playHalf f 0 o order else s
  | _ => s

/-! ### Mains changes and leaving RUNNING (R56, R57, R59) -/

/-- The window in progress ends, the armed starts are cancelled, the half index becomes 0 and the held
claim is withdrawn (R56, R59, R60). -/
def State.endPlayback (s : State) (f : Feed) : State :=
  (s.setCsq f { s.csq.get f with currentWindow := none, armed := [], halfIndex := 0 }).withdraw f

/-- A mains-state change at CSQ f (R44, R56, R57). -/
def State.seqTakesChange (s : State) (f : Feed) (new : MainsState) : State :=
  match (s.csq.get f).state, new with
  | .running, .absent => (s.endPlayback f).enterSeq f .held
  | .running, .acquiring => (s.endPlayback f).enterSeq f .held
  | .held, .locked => s.enterSeq f .waitingSync
  | _, _ => s

/-! ### SEQ_START and SEQ_STOP (R43, R59) -/

/-- R43 at its owner. -/
def seqStart (feed : Word) (s : State) : Answer :=
  match feedOf feed with
  | none => s.refused .badParam
  | some f =>
      if (s.csq.get f).state = .stopped then
        match s.checkBank f (s.csq.get f).currentBank with
        | .pass => (s.enterSeq f .waitingSync, Reply.done [])
        | failed => (s, failed.refusal)
      else s.refused .wrongState

/-- SEQ_START (R43). -/
def execSeqStart (feed : Word) (s : State) : Outcome := .next (s.manage 0x03 [feed] (seqStart feed))

/-- R59 at its owner. -/
def seqStop (feed : Word) (s : State) : Answer :=
  match feedOf feed with
  | none => s.refused .badParam
  | some f =>
      if (s.csq.get f).state = .stopped then (s, Reply.done [])
      else ((s.endPlayback f).enterSeq f .stopped, Reply.done [])

/-- SEQ_STOP (R59). -/
def execSeqStop (feed : Word) (s : State) : Outcome := .next (s.manage 0x04 [feed] (seqStop feed))

end Sys2Proof.Machine
end

