-- ==== Sys2Proof/Machine/Mains.lean ====
section
/-! DEFINITION. Chapter 1, the Mains Timebase: edges (R1 to R4, R7, R8), the silence deadline (R5), the
acceptance window (R6, R9), origins (R11, R12), zones (R15, R16) and the position answer (R14, R17, R61). -/
namespace Sys2Proof.Machine

/-! ### Intervals, estimate and tolerance -/

/-- Whether an interval is in the acceptance band (R1). -/
def inBand (d : Nat) : Bool := Config.bandLow ≤ d && d ≤ Config.bandHigh

/-- P formed from a history (R4, R7). -/
def estimateOf (history : List Nat) : Nat := history.sum / 8

/-- The tolerance of an estimate (R6). -/
def tolerance (p : Nat) : Nat := p / 64

/-- The acceptance window formed from a crossing time and an estimate (R6). -/
def windowAfter (time p : Nat) : AcceptWindow := ⟨time + p - tolerance p, time + p + tolerance p⟩

/-- Whether a time lies in an acceptance window (R6, R7). -/
def AcceptWindow.holds (w : AcceptWindow) (t : Nat) : Bool := w.opens ≤ t && t ≤ w.closes

/-- The origin record: none while it is invalid (spec/01 section 1.1). -/
def Mtu.originRec (m : Mtu) : Option OriginRecord :=
  m.originMark.map fun o => ⟨o.t0, o.polarity, m.originEstimate⟩

/-! ### Entries into the mains states -/

/-- Entry into ABSENT (R2): P, the offset and the boundary list are kept. The origin record becomes invalid; its
P_o, which nothing reads then, is kept (DESIGN CHOICE, notes/assumptions/29.md, safe). -/
def Mtu.enterAbsent (m : Mtu) : Mtu :=
  { m with
    state := .absent
    history := []
    last := none
    silence := none
    window := none
    deviantRun := 0
    missRun := 0
    pendingOrigin := none
    originMark := none
    zonesDue := [] }

/-- An edge becomes the anchor of a fresh acquisition (R2, R8): the history is empty, no origin stands and
the silence deadline is 550,000 ticks ahead; P is held. -/
def Mtu.anchor (m : Mtu) (t : Nat) (p : Polarity) : Mtu :=
  { m.enterAbsent with
    state := .acquiring
    last := some ⟨t, p, .real⟩
    silence := some (t + Config.silenceTicks) }

/-- A crossing taken in LOCKED or FREE_RUN opens a new window and schedules its origin, which is not before
the present moment: a nominal time already past makes it a late origin (R6, R11, R12). -/
def Mtu.takeCrossing (m : Mtu) (x : Crossing) (now : Nat) : Mtu :=
  { m with
    last := some x
    window := some (windowAfter x.time m.period)
    pendingOrigin := some ⟨max (x.time + m.offset) now, x.polarity, m.period⟩ }

/-- The eighth interval locks the MTU (R4). -/
def Mtu.lock (m : Mtu) (t : Nat) (p : Polarity) (history : List Nat) : Mtu :=
  { m with
    state := .locked
    period := estimateOf history
    history := history
    silence := none
    deviantRun := 0
    missRun := 0 }.takeCrossing ⟨t, p, .real⟩ t

/-! ### An edge (R1 to R4, R7, R8) -/

/-- An edge in ACQUIRING, judged against the anchor (R3, R4). -/
def Mtu.acquiringEdge (m : Mtu) (anchor : Crossing) (t : Nat) (p : Polarity) : Mtu :=
  let d := t - anchor.time
  let m' := { m with silence := some (t + Config.silenceTicks) }
  if d < Config.bandLow then m'
  else if d ≤ Config.bandHigh && p ≠ anchor.polarity then
    if m.history.length + 1 = 8 then m.lock t p (m.history ++ [d])
    else { m' with history := m.history ++ [d], last := some ⟨t, p, .real⟩ }
  else { m' with history := [], last := some ⟨t, p, .real⟩ }

/-- Whether an edge is accepted as a real crossing (R7). -/
def Mtu.accepts (m : Mtu) (last : Crossing) (t : Nat) (p : Polarity) : Bool :=
  p = opposite last.polarity && m.window.any (·.holds t) && inBand (t - last.time)

/-- Acceptance of a real crossing (R7). -/
def Mtu.accept (m : Mtu) (last : Crossing) (t : Nat) (p : Polarity) : Mtu :=
  let history :=
    match last.kind with
    | .real => m.history.drop 1 ++ [t - last.time]
    | .synthesised => m.history
  { m with
    state := .locked
    history := history
    period :=
      match last.kind with
      | .real => estimateOf history
      | .synthesised => m.period
    deviantRun := 0
    missRun := 0 }.takeCrossing ⟨t, p, .real⟩ t

/-- An edge in LOCKED or FREE_RUN (R7, R8). -/
def Mtu.trackingEdge (m : Mtu) (last : Crossing) (t : Nat) (p : Polarity) : Mtu :=
  if m.accepts last t p then m.accept last t p
  else if inBand (t - last.time) then
    if m.deviantRun + 1 = 4 then m.anchor t p else { m with deviantRun := m.deviantRun + 1 }
  else m

/-- An edge taken by the MTU at a time (R1). A crossing is always held outside ABSENT; without one the
edge is a fresh anchor. -/
def Mtu.edge (m : Mtu) (t : Nat) (p : Polarity) : Mtu :=
  match m.state, m.last with
  | .acquiring, some x => m.acquiringEdge x t p
  | .locked, some x => m.trackingEdge x t p
  | .freeRun, some x => m.trackingEdge x t p
  | _, _ => m.anchor t p

/-! ### Expiries (R5, R9) -/

/-- Whether the silence deadline has passed (R5). -/
def Mtu.silenceDue (m : Mtu) (now : Nat) : Bool := m.state = .acquiring && m.silence.any (· ≤ now)

/-- Whether the acceptance window has expired (R9). -/
def Mtu.windowDue (m : Mtu) (now : Nat) : Bool :=
  (m.state = .locked || m.state = .freeRun) && m.window.any (·.closes ≤ now)

/-- A synthesised crossing (R9). -/
def Mtu.synthesise (m : Mtu) (last : Crossing) (now : Nat) : Mtu :=
  { m with state := .freeRun, missRun := m.missRun + 1 }.takeCrossing
    ⟨last.time + m.period, opposite last.polarity, .synthesised⟩ now

/-- The acceptance window expires with no accepted edge (R9). -/
def Mtu.expireWindow (m : Mtu) (now : Nat) : Mtu :=
  match m.last with
  | some x => if m.missRun + 1 < 50 then m.synthesise x now else m.enterAbsent
  | none => m.enterAbsent

/-! ### Handing a mains-state change on (R13) -/

/-- A change of mains state is handed to CSQ f and CLC f, in either order, and to the MGP (R13, R58); with
no change nothing is handed. -/
def State.handMains (s : State) (f : Feed) (old new : MainsState) (order : ChangeOrder) : State :=
  if new = old then s
  else
    let s1 :=
      match order with
      | .sequencerFirst => (s.seqTakesChange f new).offerFeedState f
      | .noticeFirst => (s.offerFeedState f).seqTakesChange f new
    s1.offerEvent (.mainsState f new)

/-- MTU f becomes `m`, and a change of mains state is handed on. -/
def State.mainsBecomes (s : State) (f : Feed) (m : Mtu) (order : ChangeOrder) : State :=
  (s.setMtu f m).handMains f (s.mtu.get f).state m.state order

/-- MAINS_EDGE: an edge sampled at this tick (R1); the sampled level is not held (DESIGN CHOICE,
notes/assumptions/9.md, safe). -/
def execMainsEdge (f : Feed) (p : Polarity) (order : ChangeOrder) (s : State) : Outcome :=
  .next (s.mainsBecomes f ((s.mtu.get f).edge s.now p) order)

/-- SILENCE_DEADLINE_EXPIRY (R5). -/
def execSilenceDeadlineExpiry (f : Feed) (order : ChangeOrder) (s : State) : Outcome :=
  .next <|
    if (s.mtu.get f).silenceDue s.now then s.mainsBecomes f (s.mtu.get f).enterAbsent order else s

/-- ACCEPTANCE_WINDOW_EXPIRY (R9). -/
def execAcceptanceWindowExpiry (f : Feed) (order : ChangeOrder) (s : State) : Outcome :=
  .next <|
    if (s.mtu.get f).windowDue s.now then
      s.mainsBecomes f ((s.mtu.get f).expireWindow s.now) order
    else s

/-! ### Origins and zone events (R11, R15, R16) -/

/-- The zone events of a half-cycle for a boundary list, numbered by place from 1 (R15); that the MTU holds their
list is DEDUCED (notes/assumptions/27.md), safe. -/
def zoneEvents (boundaries : List Nat) (o : OriginRecord) : List ZoneDue :=
  boundaries.zipIdx.map fun p => ⟨p.2 + 1, p.1, o.t0 + phaseTicks p.1 o.estimate⟩

/-- The pending origin's time arrives: it becomes the origin record, and the zone events of the new
half-cycle replace those still outstanding (R11, R16). -/
def Mtu.originReached (m : Mtu) (o : PendingOrigin) : Mtu :=
  { m with
    pendingOrigin := none
    originMark := some ⟨o.time, o.polarity⟩
    originEstimate := o.estimate
    zonesDue := zoneEvents m.boundaries ⟨o.time, o.polarity, o.estimate⟩ }

/-- ORIGIN (R11): the origin event, with zone 0, is delivered to CSQ f. -/
def execOrigin (f : Feed) (order : BoundaryOrder) (s : State) : Outcome :=
  .next <|
    match (s.mtu.get f).pendingOrigin with
    | some o =>
        if o.time ≤ s.now then
          (s.setMtu f ((s.mtu.get f).originReached o)).takeOrigin f ⟨o.time, o.polarity, o.estimate⟩
            order
        else s
    | none => s

/-- ZONE_EVENT (R15): the first outstanding zone event is delivered to CSQ f, which in RUNNING offers a ZONE
notice (R48). -/
def execZoneEvent (f : Feed) (s : State) : Outcome :=
  .next <|
    match (s.mtu.get f).zonesDue with
    | z :: rest =>
        if z.time ≤ s.now then
          let s1 := s.setMtu f { s.mtu.get f with zonesDue := rest }
          if (s.csq.get f).state = .running then s1.offerZone f z.zone z.phase else s1
        else s
    | [] => s

/-! ### Position (R14, R17, R61) -/

/-- The greatest phase unit not above n that has begun d ticks after the origin (R14). -/
def phaseFrom (d estimate : Nat) : Nat → Nat
  | 0 => 0
  | n + 1 => if phaseTicks (n + 1) estimate ≤ d then n + 1 else phaseFrom d estimate n

/-- The phase position at a time, 0 while the origin record is invalid (R14). -/
def Mtu.phaseAt (m : Mtu) (now : Nat) : Nat :=
  match m.originRec with
  | some o => phaseFrom (now - o.t0) o.estimate 255
  | none => 0

/-- The zone of a phase position (R15). -/
def zoneOf (boundaries : List Nat) (phase : Nat) : Nat := (boundaries.filter (· ≤ phase)).length

/-- The zone at a time, 0 while the origin record is invalid (R17). -/
def Mtu.zoneAt (m : Mtu) (now : Nat) : Nat :=
  match m.originRec with
  | some _ => zoneOf m.boundaries (m.phaseAt now)
  | none => 0

/-- The polarity of the current half-cycle, positive while the origin record is invalid (R17). -/
def Mtu.polarityNow (m : Mtu) : Polarity :=
  match m.originRec with
  | some o => o.polarity
  | none => .positive

/-- The POSITION contents of feed f (R61). -/
def State.position (s : State) (f : Feed) : Position :=
  let m := s.mtu.get f
  let q := s.csq.get f
  { mains := m.state
    period := m.period
    seq := q.state
    beaconCount := q.beaconCount
    halfIndex := if q.state = .running then q.halfIndex else 0
    phase := m.phaseAt s.now
    zone := m.zoneAt s.now
    window := if q.state = .running then q.currentWindow else none }

/-- R61 at the management port. -/
def positionRead (feed : Word) (s : State) : Answer :=
  match feedOf feed with
  | none => s.refused .badParam
  | some f => (s, Reply.done (s.position f).words)

/-- POSITION_READ (R61). -/
def execPositionRead (feed : Word) (s : State) : Outcome :=
  .next (s.manage 0x40 [feed] (positionRead feed))

/-- POSITION_QUERY (R177). -/
def execPositionQuery (f : Feed) (tag : Byte) (s : State) : Outcome :=
  .next (s.takeFrame f fun t => t.respond f tag (.position (t.position f)))

end Sys2Proof.Machine
end

