-- ==== Sys2Proof/Machine/Measurement.lean ====
section
/-! DEFINITION. Chapter 6, the upload of measurement reports: MEASURE_OPEN, MEASURE_BLOCK, MEASURE_ABORT
(R99 to R105), the gap deadline (R104) and abandonment (R106 to R108). -/
namespace Sys2Proof.Machine

/-! ### The open report (R97, R98) -/

/-- The lowest-numbered FREE buffer (R100). -/
def Clc.freeBuffer (c : Clc) : Option BufNo :=
  if c.buf0 = .free then some .b0 else if c.buf1 = .free then some .b1 else none

/-- The open report with its buffer (R98). -/
def Clc.openReport (c : Clc) : Option (BufNo × Report) :=
  match c.report with
  | .open_ b _ =>
      match c.buffer b with
      | .filling r => some (b, r)
      | _ => none
  | _ => none

/-- The open report ends in a report state: its FILLING buffer becomes FREE and the gap deadline, held only
in OPEN, is discarded (R102, R104 to R107). -/
def Clc.closeReport (c : Clc) (next : ReportState) : Clc :=
  match c.openReport with
  | some (b, _) => { c.setBuffer b .free with report := next }
  | none => { c with report := next }

/-- The number of blocks accepted of a report (R108). -/
def Report.received (r : Report) : Nat := r.expected - r.firstBlock

/-- Offers REPORT_ABANDONED for a report (R108). -/
def State.offerAbandoned (s : State) (f : Feed) (r : Report) (reason : AbandonReason) : State :=
  s.offerGeneral f (.reportAbandoned r.link r.zone reason r.received)

/-! ### MEASURE_OPEN (R99, R100) -/

/-- Check 4 of R99. -/
def reportFits (zones zone firstBlock blocks : Nat) : Bool :=
  zone < zones && firstBlock ≤ 11 && 1 ≤ blocks && blocks ≤ 12 && firstBlock + blocks ≤ 12

/-- A buffer filled with a new report, and the report state OPEN (R100). -/
def Clc.startReport (c : Clc) (b : BufNo) (r : Report) (gap : Nat) : Clc :=
  { c.setBuffer b (.filling r) with report := .open_ b gap }

/-- A MEASURE_OPEN taken on cycle link f with no report open (R99, R100). -/
def State.openNew (s : State) (f : Feed) (tag link zone firstBlock blocks : Byte) : State :=
  match (s.clc.get f).freeBuffer with
  | none => s.refuse f tag .busy
  | some b =>
      match s.linkOn f link with
      | none => s.refuse f tag .noLink
      | some (l, k) =>
          if reportFits (s.zoneCount f) zone.toNat firstBlock.toNat blocks.toNat then
            (s.setClc f ((s.clc.get f).startReport b
              ⟨l, k.record.generation, zone.toNat, firstBlock.toNat, blocks.toNat, firstBlock.toNat, []⟩
              (s.now + Config.gapTicks))).respond f tag .accepted
          else s.refuse f tag .badParam

/-- A MEASURE_OPEN taken on cycle link f; it ends REMOVED whether accepted or refused (R99). -/
def State.measureOpen (s : State) (f : Feed) (tag link zone firstBlock blocks : Byte) : State :=
  match (s.clc.get f).report with
  | .open_ _ _ => s.refuse f tag .wrongState
  | _ =>
      (s.setClc f { s.clc.get f with report := .idle }).openNew f tag link zone firstBlock blocks

/-- MEASURE_OPEN (R99, R100, R173, R175). -/
def execMeasureOpen (f : Feed) (tag link zone firstBlock blocks : Byte) (s : State) : Outcome :=
  .next (s.takeFrame f fun t => t.measureOpen f tag link zone firstBlock blocks)

/-! ### MEASURE_BLOCK (R101 to R103) -/

/-- A report with one more block (R101). -/
def Report.extend (r : Report) (values : Vector Byte 8) : Report :=
  { r with expected := r.expected + 1, values := r.values ++ values.toList }

/-- A block in sequence accepted into the open report (R101). -/
def State.acceptBlock (s : State) (f : Feed) (tag : Byte) (b : BufNo) (r : Report) : State :=
  let c := s.clc.get f
  if r.expected < r.firstBlock + r.blocks then
    (s.setClc f { c.setBuffer b (.filling r) with report := .open_ b (s.now + Config.gapTicks) }).respond
      f tag .accepted
  else
    ((s.setClc f { c.setBuffer b (.full r) with report := .idle }).setPlanner
      { s.planner with foldQueue := s.planner.foldQueue ++ [⟨f, b⟩] }).respond f tag
        (.reportClosed r.link r.zone)

/-- A MEASURE_BLOCK taken on cycle link f (R101 to R103). -/
def State.measureBlock (s : State) (f : Feed) (tag sequence : Byte) (values : Vector Byte 8) : State :=
  match (s.clc.get f).openReport with
  | some (b, r) =>
      if sequence.toNat = r.expected then s.acceptBlock f tag b (r.extend values)
      else
        ((s.setClc f ((s.clc.get f).closeReport .idle)).refuse f tag .badParam).offerAbandoned f r
          .sequence
  | none =>
      match (s.clc.get f).report with
      | .removed => (s.setClc f { s.clc.get f with report := .idle }).refuse f tag .noLink
      | _ => s.refuse f tag .wrongState

/-- MEASURE_BLOCK (R101 to R103, R173, R175). -/
def execMeasureBlock (f : Feed) (tag sequence : Byte) (values : Vector Byte 8) (s : State) : Outcome :=
  .next (s.takeFrame f fun t => t.measureBlock f tag sequence values)

/-! ### MEASURE_ABORT (R105) and the gap deadline (R104) -/

/-- A MEASURE_ABORT taken on cycle link f (R105). -/
def State.measureAbort (s : State) (f : Feed) (tag : Byte) : State :=
  (s.setClc f ((s.clc.get f).closeReport .idle)).respond f tag .accepted

/-- MEASURE_ABORT (R105, R173, R175). -/
def execMeasureAbort (f : Feed) (tag : Byte) (s : State) : Outcome :=
  .next (s.takeFrame f fun t => t.measureAbort f tag)

/-- Whether the gap deadline has passed (R104). -/
def Clc.gapDue (c : Clc) (now : Nat) : Bool :=
  match c.report with
  | .open_ _ gap => gap ≤ now
  | _ => false

/-- GAP_DEADLINE_EXPIRY (R104). -/
def execGapDeadlineExpiry (f : Feed) (s : State) : Outcome :=
  .next <|
    if (s.clc.get f).gapDue s.now then
      let s1 := s.setClc f ((s.clc.get f).closeReport .idle)
      match (s.clc.get f).openReport with
      | some (_, r) => s1.offerAbandoned f r .timeout
      | none => s1
    else s

/-! ### Abandonment (R106, R107) -/

/-- The open report of cycle link f is abandoned silently; REMOVED becomes IDLE too (R107). -/
def Clc.dropReport (c : Clc) : Clc := c.closeReport .idle

/-- The open report of cycle link f is abandoned when it is for one of a removed station's links (R106). -/
def State.abandonRemoved (s : State) (f : Feed) (n : StationIx) : State :=
  match (s.clc.get f).openReport with
  | some (_, r) =>
      if linkStation r.link = n then
        (s.setClc f ((s.clc.get f).closeReport .removed)).offerAbandoned f r .linkRemoved
      else s
  | none => s

end Sys2Proof.Machine
end

