-- ==== Sys2Proof/Machine/Membership.lean ====
section
/-! DEFINITION. Chapter 5, the Membership Table: admission and removal (R82 to R85), HEARD (R88, R89), the
streams (R91, R92) and the reads (R87, R94). -/
namespace Sys2Proof.Machine

/-! ### STATION_ADD (R82, R83) -/

/-- The lowest-numbered FREE entry among 3..63 (R83). -/
def State.freeEntry (s : State) : Option StationIx :=
  (List.finRange 64).find? fun n => 3 ≤ n.val && (s.station n).member = none

/-- A link at its creation (R83 steps 2 to 4, R109, R138, R156). -/
def newLink (f : Feed) (generation : Byte) (zones : Nat) (m : NotchMask) : Link where
  record := ⟨f, generation, .robust, 8, 4, 0, 0, 0, 0, 0, none⟩
  channel := List.replicate zones ZoneRecord.cleared
  active := ⟨0, .robust, List.replicate zones (robustMap m)⟩
  next := none

/-- A station admitted into an entry, with its two links (R83). -/
def State.enterStation (s : State) (n : StationIx) (f : Feed) (address : Byte) : State :=
  let g := (s.station n).generation + 1
  let k := newLink f g (s.zoneCount f) (s.notch.get f)
  ((s.setStation n ⟨some ⟨f, address⟩, g, 0⟩).setLink (downlink n) (some k)).setLink (uplink n) (some k)

/-- R82 and R83 at their owner. -/
def stationAdd (feed address : Word) (s : State) : Answer :=
  match feedOf feed with
  | none => s.refused .badParam
  | some f =>
      if address.toNat = 0 || 254 < address.toNat then s.refused .badParam
      else
        match s.holderOf f address.toNat with
        | some _ => s.refused .inUse
        | none =>
            match s.freeEntry with
            | none => s.refused .full
            | some n => (s.enterStation n f (byte address.toNat), Reply.done [word n.val])

/-- STATION_ADD (R82, R83). -/
def execStationAdd (feed address : Word) (s : State) : Outcome :=
  .next (s.manage 0x20 [feed, address] (stationAdd feed address))

/-! ### STATION_REMOVE (R84, R85) -/

/-- Whether a general notice is purged when a station's links are removed (R85 step 5). -/
def GeneralNotice.concerns (n : GeneralNotice) (st : StationIx) : Bool :=
  match n with
  | .mapNext l _ _ _ => linkStation l = st
  | .mapSwitched l _ _ => linkStation l = st
  | .linkGrade l _ _ _ _ _ => linkStation l = st
  | _ => false

/-- The general queue of CLC f purged of a removed station's notices (R85 step 5, R181). -/
def State.purgeNotices (s : State) (f : Feed) (n : StationIx) : State :=
  let c := s.clc.get f
  s.setClc f { c with general := c.general.filter fun g => !g.concerns n }

/-- The teardown of a station of feed f, in the order of R85. -/
def State.tearDown (s : State) (n : StationIx) (f : Feed) : State :=
  let s1 := s.setStation n { s.station n with member := none }
  let s2 := s1.setPlanner ((s1.planner.forget (downlink n)).forget (uplink n))
  let s3 := (s2.freeLink (downlink n)).freeLink (uplink n)
  (s3.purgeNotices f n).abandonRemoved f n

/-- R84 and R85 at their owner. -/
def stationRemove (station : Word) (s : State) : Answer :=
  match finOf 64 station.toNat with
  | none => s.refused .badParam
  | some n =>
      if n.val < 3 then s.refused .badParam
      else
        match (s.station n).member with
        | none => s.refused .noEntry
        | some m =>
            if 0 < (s.station n).refs then s.refused .inUse
            else (s.tearDown n m.feed, Reply.done [])

/-- STATION_REMOVE (R84, R85). -/
def execStationRemove (station : Word) (s : State) : Outcome :=
  .next (s.manage 0x21 [station] (stationRemove station))

/-! ### STATION_READ (R87) -/

/-- The five result words of STATION_READ (R87). -/
def Station.words (x : Station) : List Word :=
  (match x.member with
    | some m => [1, word (feedIndex m.feed), word m.address.toNat]
    | none => [0, 255, 0]) ++ [word x.generation.toNat, word x.refs]

/-- R87 at its owner. -/
def stationRead (station : Word) (s : State) : Answer :=
  match finOf 64 station.toNat with
  | none => s.refused .badParam
  | some n => (s, Reply.done (s.station n).words)

/-- STATION_READ (R87). -/
def execStationRead (station : Word) (s : State) : Outcome :=
  .next (s.manage 0x22 [station] (stationRead station))

/-! ### HEARD (R88, R89) -/

/-- R89: whether the event queue holds a STATION_HEARD of a feed and address. -/
def State.heardQueued (s : State) (f : Feed) (a : Byte) : Bool :=
  s.mgp.events.contains (.stationHeard f a)

/-- A HEARD taken on cycle link f (R88, R89). -/
def State.hear (s : State) (f : Feed) (tag address : Byte) : State :=
  if address.toNat = 0 || address.toNat = 255 then s.refuse f tag .badParam
  else
    match s.holderOf f address.toNat with
    | some n =>
        if n.val < 3 then s.refuse f tag .badParam
        else s.respond f tag (.acceptedHeard (some n))
    | none =>
        let s1 := s.respond f tag (.acceptedHeard none)
        if s.heardQueued f address then s1 else s1.offerEvent (.stationHeard f address)

/-- HEARD (R88, R89, R173, R175). -/
def execHeard (f : Feed) (tag address : Byte) (s : State) : Outcome :=
  .next (s.takeFrame f fun t => t.hear f tag address)

/-! ### Streams (R91, R92, R94) -/

/-- The lowest-numbered FREE stream record (R91). -/
def State.freeStream (s : State) : Option StreamNo :=
  (List.finRange 32).find? fun n => (s.stream n).state = .free

/-- Whether a link is LIVE at UNREACHABLE. -/
def State.unreachable (s : State) (l : LinkNo) : Bool :=
  (s.link l).any (·.record.grade = .unreachable)

/-- The state a new stream takes (R91): SUSPENDED when it has a link whose grade is UNREACHABLE. -/
def State.newStreamState (s : State) (e : StreamEnds) : StreamState :=
  if e.link.any s.unreachable then .suspended e else .active e

/-- A stream created into a record, with one reference to each of its stations (R91). -/
def State.createStream (s : State) (n : StreamNo) (e : StreamEnds) : State :=
  ((s.setStream n ⟨s.newStreamState e, 0⟩).holdStation e.transmitter).holdStation e.receiver

/-- Whether two stations are distinct MEMBERs of one feed (R90, R91). -/
def State.canStream (s : State) (t r : StationIx) : Bool :=
  match (s.station t).member, (s.station r).member with
  | some m, some n => m.feed = n.feed && t ≠ r
  | _, _ => false

/-- R91 at its owner. -/
def streamCreate (transmitter receiver : Word) (s : State) : Answer :=
  match finOf 64 transmitter.toNat, finOf 64 receiver.toNat with
  | some t, some r =>
      if s.canStream t r then
        match s.freeStream with
        | none => s.refused .full
        | some n => (s.createStream n ⟨t, r⟩, Reply.done [word n.val])
      else s.refused .badParam
  | _, _ => s.refused .badParam

/-- STREAM_CREATE (R91). -/
def execStreamCreate (transmitter receiver : Word) (s : State) : Outcome :=
  .next (s.manage 0x23 [transmitter, receiver] (streamCreate transmitter receiver))

/-- R92 at its owner. -/
def streamDelete (stream : Word) (s : State) : Answer :=
  match finOf 32 stream.toNat with
  | none => s.refused .badParam
  | some n =>
      match (s.stream n).state.ends with
      | none => s.refused .noEntry
      | some e =>
          if 0 < (s.stream n).refs then s.refused .inUse
          else
            (((s.dropStation e.transmitter).dropStation e.receiver).setStream n ⟨.free, 0⟩,
              Reply.done [])

/-- STREAM_DELETE (R92). -/
def execStreamDelete (stream : Word) (s : State) : Outcome :=
  .next (s.manage 0x24 [stream] (streamDelete stream))

/-- The state word of a stream (R94). -/
def StreamState.code : StreamState → Nat
  | .free => 0
  | .active _ => 1
  | .suspended _ => 2

/-- The five result words of STREAM_READ (R94). -/
def Stream.words (t : Stream) : List Word :=
  [word t.state.code] ++
    (match t.state.ends with
      | some e =>
          [word e.transmitter.val, word e.receiver.val, word ((e.link.map Fin.val).getD 255)]
      | none => [255, 255, 255]) ++ [word t.refs]

/-- R94 at its owner. -/
def streamRead (stream : Word) (s : State) : Answer :=
  match finOf 32 stream.toNat with
  | none => s.refused .badParam
  | some n => (s, Reply.done (s.stream n).words)

/-- STREAM_READ (R94). -/
def execStreamRead (stream : Word) (s : State) : Outcome :=
  .next (s.manage 0x25 [stream] (streamRead stream))

end Sys2Proof.Machine
end

