-- ==== Sys2Proof/Machine/LinkControl.lean ====
section
/-! DEFINITION. Chapter 10, the state of a cycle link: loss of the link (R174), the END of a frame sent
(R176, R179), the flush of a feed restart (R183), and FEED_RESTART, FEED_CONFIGURE and DEVICE_RESET, which
reach several blocks (R19, R20, R40, R41, R60, R190). -/
namespace Sys2Proof.Machine

/-! ### Cutting and emptying (R174, R183) -/

/-- Whether a frame of a source is on the line. -/
def Clc.sends (c : Clc) (source : FrameSource) : Bool :=
  c.transmitter.sending.any fun x => x.source = source

/-- A frame being sent is cut: the transmitter becomes IDLE, and IDLE is sent before the next START (R170,
R174 step 2). -/
def Clc.cutFrame (c : Clc) (now : Nat) : Clc :=
  match c.transmitter.sending with
  | some _ => { c with transmitter := ⟨now + Config.symbolTicks, none⟩ }
  | none => c

/-- Steps 2 to 4 of R174 and 1 to 3 of R183 at the CLC itself: the frame being sent is cut, both queues and the
slot are emptied, and each lost mark is set that has lost something. -/
def Clc.flush (c : Clc) (now : Nat) : Clc :=
  { c.cutFrame now with
    timing := []
    general := []
    slot := none
    timingLost := c.timingLost || !c.timing.isEmpty || c.sends .timing
    generalLost := c.generalLost || !c.general.isEmpty || c.sends .general
    dropped := c.dropped || c.slot.isSome }

/-- Flushes CLC f, releases the fetch claim its slot held and abandons an open report silently (R107, R166,
R174, R183). -/
def State.flushLink (s : State) (f : Feed) : State :=
  let s1 := (s.setClc f ((s.clc.get f).flush s.now)).releaseClaim f
  s1.setClc f (s1.clc.get f).dropReport

/-! ### Loss of the link (R174) -/

/-- Whether the loss deadline has passed (R174). -/
def Clc.lossDue (c : Clc) (now : Nat) : Bool :=
  match c.link with
  | .up d => d ≤ now
  | .down => false

/-- Cycle link f goes DOWN (R174). -/
def State.loseLink (s : State) (f : Feed) : State :=
  ((s.setClc f { s.clc.get f with link := .down, receiver := .waiting }).flushLink f).offerEvent
    (.linkState f false)

/-- LOSS_DEADLINE_EXPIRY (R174). -/
def execLossDeadlineExpiry (f : Feed) (s : State) : Outcome :=
  .next (if (s.clc.get f).lossDue s.now then s.loseLink f else s)

/-! ### The END of a frame sent (R176, R179) -/

/-- Whether the END of the frame being sent can have been sent by now (R170). -/
def Clc.endDue (c : Clc) (now : Nat) : Bool := c.transmitter.sending.any (·.endAt ≤ now)

/-- The line of a CLC once an END has been sent: at least one IDLE symbol precedes the next START (R170). -/
def Clc.ended (c : Clc) (now : Nat) : Clc :=
  { c with transmitter := ⟨now + Config.symbolTicks, none⟩ }

/-- The END of a response frame: the slot becomes empty (R176), and for a MAP_DATA the claim is released and the
transmitter chooses, in either order (R164, R184). -/
def State.endResponse (s : State) (f : Feed) (order : EndOrder) : State :=
  let c := s.clc.get f
  let s1 := s.setClc f { c.ended s.now with slot := none }
  match s.claims.get f, order with
  | none, _ => s1.chooseFrame f
  | some _, .releaseFirst => (s1.releaseClaim f).chooseFrame f
  | some _, .chooseFirst => (s1.chooseFrame f).releaseClaim f

/-- FRAME_END_SENT (R164, R176, R179): a notice's END frees the line, a response's the slot too, and the
transmitter chooses its next frame. -/
def execFrameEndSent (f : Feed) (order : EndOrder) (s : State) : Outcome :=
  .next <|
    if (s.clc.get f).endDue s.now then
      if (s.clc.get f).sends .response then s.endResponse f order
      else (s.setClc f ((s.clc.get f).ended s.now)).chooseFrame f
    else s

/-! ### FEED_RESTART (R20, R40, R60, R183) -/

/-- R60 and R40 at the sequencer: STOPPED with nothing in progress and beacon count 0, the claim withdrawn, a
COUNTING bank back in EDIT; no notice. -/
def State.restartSeq (s : State) (f : Feed) : State :=
  let s1 := (s.endPlayback f).cancelPending f
  s1.setCsq f { s1.csq.get f with state := .stopped, beaconCount := 0 }

/-- R20 at the MTU: ABSENT, with a MAINS_STATE event when it was not ABSENT already, and no notice. The
sequencer is STOPPED by then, and the change has no effect there (R60). -/
def State.restartMains (s : State) (f : Feed) : State :=
  let s1 := s.setMtu f (s.mtu.get f).enterAbsent
  if (s.mtu.get f).state = .absent then s1 else s1.offerEvent (.mainsState f .absent)

/-- R60, R20, R40 and R183 at their owners. -/
def feedRestart (feed : Word) (s : State) : Answer :=
  match feedOf feed with
  | none => s.refused .badParam
  | some f => (((s.restartSeq f).restartMains f).flushLink f, Reply.done [])

/-- FEED_RESTART (R60). -/
def execFeedRestart (feed : Word) (s : State) : Outcome :=
  .next (s.manage 0x05 [feed] (feedRestart feed))

/-! ### FEED_CONFIGURE (R18, R27, R41, R78, R190) -/

/-- Whether a list of phase positions is strictly increasing. -/
def increasing : List Nat → Bool
  | a :: b :: rest => a < b && increasing (b :: rest)
  | _ => true

/-- Whether the counted boundaries are good (R18). -/
def boundariesFit (bs : List Nat) : Bool := bs.all (fun b => 1 ≤ b && b ≤ 255) && increasing bs

/-- Check 3 of R190. -/
def configFits (beaconLen address count : Word) (bs : List Nat) : Bool :=
  [2, 4, 6, 8].contains beaconLen.toNat && 1 ≤ address.toNat && address.toNat ≤ 254 &&
    count.toNat ≤ 5 && boundariesFit bs

/-- Whether a remote station is MEMBER on a feed (R190). -/
def State.remoteMember (s : State) (f : Feed) : Bool :=
  (List.finRange 64).any fun n => 3 ≤ n.val && s.memberOn n f

/-- An MTU with a new offset and boundary list: the zone events still to be delivered are those of the new list
that begin later than now (R18). -/
def Mtu.configure (m : Mtu) (offset : Nat) (bs : List Nat) (now : Nat) : Mtu :=
  { m with
    offset := offset
    boundaries := bs
    zonesDue :=
      match m.originRec with
      | some o => (zoneEvents bs o).filter (now < ·.time)
      | none => [] }

/-- A feed configured (R18, R27, R41, R78). -/
def State.configure (s : State) (f : Feed) (offset beaconLen : Nat) (address : Byte) (bs : List Nat) :
    State :=
  let s1 := s.cancelPending f
  let s2 := s1.setMtu f ((s1.mtu.get f).configure offset bs s1.now)
  let s3 := s2.setCsq f { s2.csq.get f with beaconLen := beaconLen }
  let n := localStation f
  s3.setStation n { s3.station n with member := some ⟨f, address⟩ }

/-- R190 at its owners. -/
def feedConfigure (feed offset beaconLen address count b1 b2 b3 b4 b5 : Word) (s : State) : Answer :=
  match feedOf feed with
  | none => s.refused .badParam
  | some f =>
      let bs := ([b1, b2, b3, b4, b5].map BitVec.toNat).take count.toNat
      if (s.csq.get f).state ≠ .stopped || s.remoteMember f then s.refused .wrongState
      else if configFits beaconLen address count bs then
        (s.configure f offset.toNat beaconLen.toNat (byte address.toNat) bs, Reply.done [])
      else s.refused .badParam

/-- FEED_CONFIGURE (R190). -/
def execFeedConfigure (feed offset beaconLen address count b1 b2 b3 b4 b5 : Word) (s : State) :
    Outcome :=
  .next (s.manage 0x01 [feed, offset, beaconLen, address, count, b1, b2, b3, b4, b5]
    (feedConfigure feed offset beaconLen address count b1 b2 b3 b4 b5))

/-! ### DEVICE_RESET (R19) -/

/-- DEVICE_RESET: RESET_N low then high returns every block to its reset values and the tick count to 0 (R19,
R42, R62, R63, R96, R115, R116, R155, R169, R185). The commands that wait outside the part, and the model's
count of free values, stay (DESIGN CHOICE, notes/assumptions/10.md, safe for the state after reset). -/
def execDeviceReset (s : State) : Outcome :=
  .next { State.reset with pending := s.pending, choices := s.choices }

end Sys2Proof.Machine
end

