-- ==== Sys2Proof/Machine/PortCommands.lean ====
section
/-! DEFINITION. Chapter 11, the management port: the judging of a command in EXECUTING and its owner (R187), the
writes that collect one (R186), EVENT_READ and EVENT_MASK (R189, R192). -/
namespace Sys2Proof.Machine

/-! ### EVENT_READ and EVENT_MASK (R189, R192) -/

/-- R192 at its owner: the head is removed and returned with the number of entries left. -/
def eventRead (s : State) : Answer :=
  match s.mgp.events with
  | [] => (s, Reply.done [])
  | e :: rest =>
      (s.setMgp { s.mgp with events := rest },
        Reply.done (word (eventClass e) :: eventFields e ++ [word rest.length]))

/-- EVENT_READ (R192). -/
def execEventRead (s : State) : Outcome := .next (s.manage 0x50 [] eventRead)

/-- The mask a word writes: bits 1..7, bit 0 and bits 8..15 ignored (R189). -/
def maskOf (w : Word) : Byte := w.setWidth 8 &&& 0xFE

/-- R189 at its owner. -/
def eventMask (w : Word) (s : State) : Answer :=
  (s.setMgp { s.mgp with mask := maskOf w }, Reply.done [(maskOf w).setWidth 16])

/-- EVENT_MASK (R189). -/
def execEventMask (w : Word) (s : State) : Outcome := .next (s.manage 0x51 [w] (eventMask w))

/-! ### Judging a command (R187) -/

/-- The commands of one parameter word (spec/11 section 11.3). -/
def ownerOfOne (code : Byte) (w : Word) (s : State) : Answer :=
  if code = 0x03 then seqStart w s
  else if code = 0x04 then seqStop w s
  else if code = 0x05 then feedRestart w s
  else if code = 0x14 then scheduleCancel w s
  else if code = 0x21 then stationRemove w s
  else if code = 0x22 then stationRead w s
  else if code = 0x24 then streamDelete w s
  else if code = 0x25 then streamRead w s
  else if code = 0x31 then linkRead w s
  else if code = 0x33 then planNow w s
  else if code = 0x40 then positionRead w s
  else if code = 0x51 then eventMask w s
  else s.refused .badParam

/-- The commands of two parameter words (spec/11 section 11.3). -/
def ownerOfTwo (code : Byte) (v w : Word) (s : State) : Answer :=
  if code = 0x11 then windowCount v w s
  else if code = 0x13 then scheduleActivate v w s
  else if code = 0x20 then stationAdd v w s
  else if code = 0x23 then streamCreate v w s
  else s.refused .badParam

/-- The commands of three parameter words (spec/11 section 11.3). -/
def ownerOfThree (code : Byte) (u v w : Word) (s : State) : Answer :=
  if code = 0x12 then windowRead u v w s
  else if code = 0x30 then linkSet u v w s
  else if code = 0x32 then mapRead u v w s
  else if code = 0x34 then channelRead u v w s
  else s.refused .badParam

/-- R187: a command code and its words handed to the owner; an unknown code, or a count that differs from the one
the command takes, completes BAD_PARAM with nothing done. -/
def ownerOf (code : Byte) (params : List Word) (s : State) : Answer :=
  match params with
  | [] => if code = 0x50 then eventRead s else s.refused .badParam
  | [w] => ownerOfOne code w s
  | [v, w] => ownerOfTwo code v w s
  | [u, v, w] => ownerOfThree code u v w s
  | [f, n, h, p, k, t] => if code = 0x10 then windowWrite f n h p k t s else s.refused .badParam
  | [f, w1, w2, w3, w4, w5, w6] =>
      if code = 0x02 then notchSet f w1 w2 w3 w4 w5 w6 s else s.refused .badParam
  | [f, o, p, a, n, b1, b2, b3, b4, b5] =>
      if code = 0x01 then feedConfigure f o p a n b1 b2 b3 b4 b5 s else s.refused .badParam
  | _ => s.refused .badParam

/-- UNKNOWN_COMMAND (R187): a command of a code and words that R187 judges; of no row of the table, it completes
BAD_PARAM. -/
def execUnknownCommand (code : Byte) (params : List Word) (s : State) : Outcome :=
  .next (s.manage code params (ownerOf code params))

/-! ### Writes (R186) -/

/-- A command that a write has brought to EXECUTING completes before anything else is taken, or stays in hand
(R187 gives the execution no length; DESIGN CHOICE, notes/assumptions/25.md, safe). -/
def State.finishCommand (s : State) (time : CompletionTime) : State :=
  match s.mgp.command, time with
  | .executing, .atOnce => s.manage s.mgp.code s.mgp.params (ownerOf s.mgp.code s.mgp.params)
  | _, _ => s

/-- COMMAND_WORD_WRITE (R186); a command word ignored in EXECUTING finishes nothing. -/
def execCommandWordWrite (w : Word) (time : CompletionTime) (s : State) : Outcome :=
  .next <|
    let s1 := s.setMgp (s.mgp.writeCommand w)
    if s.mgp.command = .idle then s1.finishCommand time else s1

/-- PARAM_WRITE (R186); a word ignored in EXECUTING finishes nothing. -/
def execParamWrite (w : Word) (time : CompletionTime) (s : State) : Outcome :=
  .next <|
    let s1 := s.setMgp (s.mgp.writeParam w)
    if s.mgp.command = .collecting then s1.finishCommand time else s1

end Sys2Proof.Machine
end

