-- ==== Sys2Proof/Machine/Receiver.lean ====
section
/-! DEFINITION. Chapter 10, the receiver: code groups (R170, R174), the collecting of a frame (R171), the
judging of a frame (R171 to R175) and its dispatch to an owner (R177). -/
namespace Sys2Proof.Machine

/-! ### Dispatch of a good frame (R175, R177) -/

/-- A frame of unknown type or wrong length: taken, and refused BAD_FRAME (R175 step 2). -/
def State.refuseFrame (s : State) (f : Feed) (tag : Byte) : State := s.refuse f tag .badFrame

/-- A command frame handed to its owner by payload length and type, or refused BAD_FRAME (R175, R177). -/
def State.dispatchFrame (s : State) (f : Feed) (tag type : Byte) (payload : List Byte) : State :=
  match payload with
  | [] =>
      if type = 0x14 then s.measureAbort f tag
      else if type = 0x17 then s.respond f tag (.position (s.position f))
      else s.refuseFrame f tag
  | [address] => if type = 0x16 then s.hear f tag address else s.refuseFrame f tag
  | [link, version, zone] =>
      if type = 0x11 then s.fetch f tag link version zone else s.refuseFrame f tag
  | [link, zone, first, blocks] =>
      if type = 0x12 then s.measureOpen f tag link zone first blocks else s.refuseFrame f tag
  | [link, zone, okHigh, okLow, failedHigh, failedLow, flags] =>
      if type = 0x15 then s.deliver f tag link zone (okHigh ++ okLow) (failedHigh ++ failedLow) flags
      else s.refuseFrame f tag
  | [sequence, v0, v1, v2, v3, v4, v5, v6, v7] =>
      if type = 0x13 then s.measureBlock f tag sequence #v[v0, v1, v2, v3, v4, v5, v6, v7]
      else s.refuseFrame f tag
  | _ => s.refuseFrame f tag

/-- UNKNOWN_FRAME (R173, R175): a good frame of unknown type or wrong length. A type and length that are known
are taken as the command they spell (DESIGN CHOICE, notes/assumptions/8.md, safe). -/
def execUnknownFrame (f : Feed) (tag type : Byte) (payload : List Byte) (s : State) : Outcome :=
  .next (s.takeFrame f fun t => t.dispatchFrame f tag type payload)

/-! ### Valid symbols (R170, R174) -/

/-- A valid symbol moves the loss deadline of an UP link (R174). -/
def State.validSymbol (s : State) (f : Feed) : State :=
  match (s.clc.get f).link with
  | .up _ => s.setClc f { s.clc.get f with link := .up (s.now + Config.lossTicks) }
  | .down => s

/-- Replaces the receiver of CLC f. -/
def State.setReceiver (s : State) (f : Feed) (r : Receiver) : State :=
  s.setClc f { s.clc.get f with receiver := r }

/-! ### Judging a collected frame (R171, R172) -/

/-- Whether a collected frame is complete: its LEN and the LEN + 2 bytes after it have arrived (R171). -/
def frameComplete (bytes : List Byte) : Bool :=
  match bytes with
  | _ :: _ :: _ :: _ :: len :: rest => rest.length = len.toNat + 2
  | _ => false

/-- Whether the CRC of a complete frame checks (R172). -/
def crcChecks (bytes : List Byte) : Bool :=
  bytes2 (crc (bytes.take (bytes.length - 2))).toNat = bytes.drop (bytes.length - 2)

/-- The END of a complete frame is received: the CRC, the complement and the slot are judged, and the owner takes
a good frame (R171, R173, R175). -/
def State.judgeFrame (s : State) (f : Feed) (bytes : List Byte) : State :=
  if crcChecks bytes then
    match bytes with
    | type :: complement :: tag :: _ :: _ :: rest =>
        if complement = ~~~type then
          s.takeFrame f fun t => t.dispatchFrame f tag type (rest.take (rest.length - 2))
        else s.heardFrame f
    | _ => s.setReceiver f .waiting
  else s.setReceiver f .waiting

/-! ### Code groups -/

/-- A control group that ends a frame being collected: START begins a new one (R171). -/
def receiverAfter : ControlGroup → Receiver
  | .startSym => .collecting []
  | _ => .waiting

/-- A code group at the receiver while a frame is being collected (R171). -/
def State.collect (s : State) (f : Feed) (bytes : List Byte) (g : CodeGroup) : State :=
  match g with
  | .startSym => s.setReceiver f (.collecting [])
  | .idleSym => s.setReceiver f .waiting
  | .invalid => s.setReceiver f .waiting
  | .endSym => if frameComplete bytes then s.judgeFrame f bytes else s.setReceiver f .waiting
  | .data b =>
      if frameComplete bytes then s.setReceiver f .waiting
      else s.setReceiver f (.collecting (bytes ++ [b]))

/-- SYMBOL_RECEIVED (R170, R171, R174): a valid symbol moves the loss deadline, then the receiver takes the
group; the END in its place is the arrival of the frame, which is judged in the same step. -/
def execSymbolReceived (f : Feed) (g : CodeGroup) (s : State) : Outcome :=
  .next <|
    let s1 := if g = .invalid then s else s.validSymbol f
    match (s1.clc.get f).receiver with
    | .waiting => if g = .startSym then s1.setReceiver f (.collecting []) else s1
    | .collecting bytes => s1.collect f bytes g

/-! ### FRAME_DISCARDED (R171, R173, R175) -/

/-- A frame ended by a control group out of place: the group, if valid, moves the loss deadline, and the
receiver waits, or collects anew after START (R170, R171, R174). -/
def State.cutInbound (s : State) (f : Feed) (g : ControlGroup) : State :=
  (if g = .invalid then s else s.validSymbol f).setReceiver f (receiverAfter g)

/-- FRAME_DISCARDED (R171, R173, R175): what each reason leaves behind. A complement mismatch still brings a DOWN
link UP, and an occupied slot sets DROPPED; with the slot empty no frame is discarded for it. -/
def execFrameDiscarded (f : Feed) (why : Discard) (s : State) : Outcome :=
  .next <|
    match why with
    | .cutShort g => s.cutInbound f g
    | .endMissing g => s.cutInbound f g
    | .overlong => (s.validSymbol f).setReceiver f .waiting
    | .badCrc => (s.validSymbol f).setReceiver f .waiting
    | .badComplement => s.heardFrame f
    | .slotOccupied =>
        match (s.clc.get f).slot with
        | some _ => (s.heardFrame f).markDropped f
        | none => s

end Sys2Proof.Machine
end

