-- ==== Sys2Proof/Machine/Dispatch.lean ====
section
/-! DEFINITION. The dispatch of a command to its meaning, in the order of spec/opcode_table.json. -/
namespace Sys2Proof.Machine

/-- The effect of a command on everything but the queue. -/
def exec (i : Instr) (s : State) : Host.Outcome State Fault Refusal :=
  match i with
  | .deviceReset => Sys2Proof.Machine.execDeviceReset s
  | .mainsEdge f polarity order => Sys2Proof.Machine.execMainsEdge f polarity order s
  | .silenceDeadlineExpiry f order => Sys2Proof.Machine.execSilenceDeadlineExpiry f order s
  | .acceptanceWindowExpiry f order => Sys2Proof.Machine.execAcceptanceWindowExpiry f order s
  | .origin f order => Sys2Proof.Machine.execOrigin f order s
  | .zoneEvent f => Sys2Proof.Machine.execZoneEvent f s
  | .windowStart f => Sys2Proof.Machine.execWindowStart f s
  | .switchCompletion => Sys2Proof.Machine.execSwitchCompletion s
  | .feedConfigure feed offset beaconLen address count b1 b2 b3 b4 b5 => Sys2Proof.Machine.execFeedConfigure feed offset beaconLen address count b1 b2 b3 b4 b5 s
  | .notchSet feed w1 w2 w3 w4 w5 w6 => Sys2Proof.Machine.execNotchSet feed w1 w2 w3 w4 w5 w6 s
  | .seqStart feed => Sys2Proof.Machine.execSeqStart feed s
  | .seqStop feed => Sys2Proof.Machine.execSeqStop feed s
  | .feedRestart feed => Sys2Proof.Machine.execFeedRestart feed s
  | .windowWrite feed slot half phase kind target => Sys2Proof.Machine.execWindowWrite feed slot half phase kind target s
  | .windowCount feed count => Sys2Proof.Machine.execWindowCount feed count s
  | .windowRead feed role slot => Sys2Proof.Machine.execWindowRead feed role slot s
  | .scheduleActivate feed countdown => Sys2Proof.Machine.execScheduleActivate feed countdown s
  | .scheduleCancel feed => Sys2Proof.Machine.execScheduleCancel feed s
  | .stationAdd feed address => Sys2Proof.Machine.execStationAdd feed address s
  | .stationRemove station => Sys2Proof.Machine.execStationRemove station s
  | .stationRead station => Sys2Proof.Machine.execStationRead station s
  | .streamCreate transmitter receiver => Sys2Proof.Machine.execStreamCreate transmitter receiver s
  | .streamDelete stream => Sys2Proof.Machine.execStreamDelete stream s
  | .streamRead stream => Sys2Proof.Machine.execStreamRead stream s
  | .linkSet link margin threshold => Sys2Proof.Machine.execLinkSet link margin threshold s
  | .linkRead link => Sys2Proof.Machine.execLinkRead link s
  | .mapRead link role zone => Sys2Proof.Machine.execMapRead link role zone s
  | .planNow link => Sys2Proof.Machine.execPlanNow link s
  | .channelRead link zone block => Sys2Proof.Machine.execChannelRead link zone block s
  | .positionRead feed => Sys2Proof.Machine.execPositionRead feed s
  | .eventRead => Sys2Proof.Machine.execEventRead s
  | .eventMask mask => Sys2Proof.Machine.execEventMask mask s
  | .unknownCommand code params => Sys2Proof.Machine.execUnknownCommand code params s
  | .paramWrite word time => Sys2Proof.Machine.execParamWrite word time s
  | .statusRead => Sys2Proof.Machine.execStatusRead s
  | .resultRead => Sys2Proof.Machine.execResultRead s
  | .ignoredWrite port word => Sys2Proof.Machine.execIgnoredWrite port word s
  | .mapFetch f tag link version zone => Sys2Proof.Machine.execMapFetch f tag link version zone s
  | .measureOpen f tag link zone firstBlock blocks => Sys2Proof.Machine.execMeasureOpen f tag link zone firstBlock blocks s
  | .measureBlock f tag sequence values => Sys2Proof.Machine.execMeasureBlock f tag sequence values s
  | .measureAbort f tag => Sys2Proof.Machine.execMeasureAbort f tag s
  | .deliveryReport f tag link zone ok failed flags => Sys2Proof.Machine.execDeliveryReport f tag link zone ok failed flags s
  | .heard f tag address => Sys2Proof.Machine.execHeard f tag address s
  | .positionQuery f tag => Sys2Proof.Machine.execPositionQuery f tag s
  | .unknownFrame f tag type payload => Sys2Proof.Machine.execUnknownFrame f tag type payload s
  | .frameDiscarded f why => Sys2Proof.Machine.execFrameDiscarded f why s
  | .lossDeadlineExpiry f => Sys2Proof.Machine.execLossDeadlineExpiry f s
  | .gapDeadlineExpiry f => Sys2Proof.Machine.execGapDeadlineExpiry f s
  | .frameEndSent f order => Sys2Proof.Machine.execFrameEndSent f order s
  | .foldJobTake => Sys2Proof.Machine.execFoldJobTake s
  | .foldComplete => Sys2Proof.Machine.execFoldComplete s
  | .planJobTake => Sys2Proof.Machine.execPlanJobTake s
  | .planComputeEnd => Sys2Proof.Machine.execPlanComputeEnd s
  | .symbolReceived f group => Sys2Proof.Machine.execSymbolReceived f group s
  | .commandWordWrite word time => Sys2Proof.Machine.execCommandWordWrite word time s

end Sys2Proof.Machine
end

