-- ==== Sys2Proof/Machine/Idle.lean ====
section
/-! DEFINITION. What the part does by itself when no command waits (DESIGN CHOICE, notes/assumptions/1.md): an
event whose time the manual fixes and that is due is taken; with none due the tick count rises by 1.
Events due on one tick are taken in an order that a free value picks (notes/assumptions/2.md). -/
namespace Sys2Proof.Machine

/-- A command when its event is due, and no command otherwise. -/
def whenDue (due : Bool) (i : Instr) : List Instr := if due then [i] else []

/-- The free value's choice between two orders. -/
def pickOrder {α : Type} (n : Nat) (x y : α) : α := if Config.freeChoice n % 2 = 0 then x else y

/-- Whether the pending origin's time has arrived (R11). -/
def Mtu.originDue (m : Mtu) (now : Nat) : Bool := m.pendingOrigin.any (·.time ≤ now)

/-- Whether the first outstanding zone event has begun (R15). -/
def Mtu.zoneDue (m : Mtu) (now : Nat) : Bool :=
  match m.zonesDue with
  | z :: _ => z.time ≤ now
  | [] => false

/-- Whether the first armed start has been reached (R49). -/
def Csq.startDue (q : Csq) (now : Nat) : Bool :=
  match q.state, q.armed with
  | .running, a :: _ => a.time ≤ now
  | _, _ => false

/-- The events of a feed that are due; an order left open is picked by the free value numbered n. -/
def State.dueOn (s : State) (n : Nat) (f : Feed) : List Instr :=
  let m := s.mtu.get f
  let c := s.clc.get f
  whenDue (m.silenceDue s.now)
      (.silenceDeadlineExpiry f (pickOrder n .sequencerFirst .noticeFirst)) ++
    whenDue (m.windowDue s.now)
      (.acceptanceWindowExpiry f (pickOrder n .sequencerFirst .noticeFirst)) ++
    whenDue (m.originDue s.now) (.origin f (pickOrder n .storeFirst .supervisorFirst)) ++
    whenDue (m.zoneDue s.now) (.zoneEvent f) ++
    whenDue ((s.csq.get f).startDue s.now) (.windowStart f) ++
    whenDue (c.lossDue s.now) (.lossDeadlineExpiry f) ++
    whenDue (c.gapDue s.now) (.gapDeadlineExpiry f) ++
    whenDue (c.endDue s.now) (.frameEndSent f (pickOrder n .releaseFirst .chooseFirst))

/-- The Planner's takings, which happen at once when the engine is IDLE and a job waits (R117). -/
def Planner.due (p : Planner) : List Instr :=
  match p.engine with
  | .idle =>
      match p.foldQueue with
      | _ :: _ => [.foldJobTake]
      | [] => whenDue p.nextPlan.isSome .planJobTake
  | _ => []

/-- Every event whose time the manual fixes and that is due now. -/
def State.dueEvents (s : State) (n : Nat) : List Instr :=
  feeds.flatMap (s.dueOn n) ++ whenDue s.switchDue .switchCompletion ++ s.planner.due

/-- The event taken first among those due: the only one, or the one the free value picks. -/
def pickEvent (n : Nat) (i : Instr) (rest : List Instr) : Instr :=
  match rest with
  | [] => i
  | _ => (i :: rest).getD (Config.freeChoice n % (rest.length + 1)) i

/-- One step of the part with no command waiting: the picked event that is due, and otherwise a tick. -/
def idle (s : State) : Outcome :=
  match s.dueEvents (s.choices + 1) with
  | [] => .next { s with now := s.now + 1 }
  | i :: rest => exec (pickEvent s.choices i rest) { s with choices := s.choices + 2 }

end Sys2Proof.Machine
end

