-- ==== Sys2Proof/Safety.lean ====
section
/-! DEFINITION. What holds of every reachable state of the W340, block by block: each is a sentence of the
manual about the whole part, and the claims say that every step keeps it. -/
namespace Sys2Proof.Machine

/-! ### Chapter 1: the MTU (R4, R7, section 1.1) -/

/-- P is 0 or in band; every interval kept is in band, at most seven of them while acquiring; in LOCKED and
FREE_RUN there are eight and P is in band; the runs keep below their limits. -/
def Mtu.Sound (m : Mtu) : Prop :=
  (m.period = 0 ∨ inBand m.period = true) ∧
    (∀ d ∈ m.history, inBand d = true) ∧
    (m.state = .acquiring → m.history.length ≤ 7) ∧
    (m.state = .locked ∨ m.state = .freeRun → m.history.length = 8 ∧ inBand m.period = true) ∧
    m.missRun ≤ 49 ∧ m.deviantRun ≤ 3

/-- Every MTU is sound (R7). -/
def State.MainsSound (s : State) : Prop := ∀ f, (s.mtu.get f).Sound

/-! ### Chapter 4: the panel driver (R51, R63) -/

/-- The claim status of a feed at the PDA. -/
def Pda.statusOf (p : Pda) (f : Feed) : Option ClaimStatus := (p.claims.get f).map (·.status)

/-- R63 at the PDA: the holder is held exactly in ENABLED and is the connected feed with its own class; the
switch completion exactly in SWITCHING; the statuses HOLDING, TARGET and WAITING say what their names say; the
list is without repeats, and empty in FREE. -/
def Pda.Sound (p : Pda) : Prop :=
  (p.holder.isSome ↔ p.driver = .enabled) ∧
    (p.switchAt.isSome ↔ p.driver = .switching) ∧
    (∀ h, p.holder = some h → p.connected = some h.feed ∧
      ∃ c, p.claims.get h.feed = some c ∧ c.cls = h.cls ∧ c.status = .holding) ∧
    (∀ f, p.statusOf f = some .holding → ∃ h, p.holder = some h ∧ h.feed = f) ∧
    (∀ f, p.statusOf f = some .target → p.driver = .switching ∧ p.connected = some f) ∧
    (∀ f, p.statusOf f = some .waiting ↔ f ∈ p.waiting) ∧
    p.waiting.Nodup ∧
    (p.driver = .free → p.waiting = []) ∧
    (p.driver = .switching → p.connected.isSome ∧ ∀ f ∈ p.waiting, p.connected ≠ some f)

/-- The PDA is sound, a claim record stands only for a claim its sequencer holds, and a sequencer holds a claim
only in RUNNING (R51, R63). -/
def State.DriverSound (s : State) : Prop :=
  s.pda.Sound ∧
    (∀ f, (s.pda.claims.get f).isSome → ((s.csq.get f).heldClaim).isSome) ∧
    ∀ f, ((s.csq.get f).heldClaim).isSome → (s.csq.get f).state = .running

/-! ### Chapter 5: stations, streams and counts (R79, R81, R93) -/

/-- R77: the local entry of each feed is MEMBER of that feed. -/
def State.LocalsPresent (s : State) : Prop :=
  ∀ f, ((s.station (localStation f)).member.map (·.feed)) = some f

/-- R78: no two MEMBER entries of one feed have the same address. -/
def State.AddressesDistinct (s : State) : Prop :=
  ∀ n m : StationIx, ∀ f a, (s.station n).member = some ⟨f, a⟩ → (s.station m).member = some ⟨f, a⟩ →
    n = m

/-- A link is LIVE exactly while its station is MEMBER, with the station's feed and generation (R79, R80). -/
def State.LinksMatchStations (s : State) : Prop :=
  ∀ l : LinkNo, 6 ≤ l.val →
    match s.link l, (s.station (linkStation l)).member with
    | some k, some m => k.record.feed = m.feed ∧
        k.record.generation = (s.station (linkStation l)).generation
    | none, none => True
    | _, _ => False

/-- The banks of a feed whose references are counted: the current bank, and the pending bank while it is
COUNTING (R22, R33). -/
def Csq.countedBanks (q : Csq) : List Bank :=
  q.currentBank ::
    match q.pendingState with
    | .edit => []
    | .counting _ => [q.pendingBank]

/-- The windows of the counted banks of every feed. -/
def State.countedWindows (s : State) : List WindowKind :=
  feeds.flatMap fun f =>
    (s.csq.get f).countedBanks.flatMap fun b => b.slotList.map fun i => (b.slot i).kind

/-- The number of streams, not FREE, that name a station. -/
def State.streamUses (s : State) (n : StationIx) : Nat :=
  ((List.finRange 32).map fun i =>
    match (s.stream i).state.ends with
    | some e => (if e.transmitter = n then 1 else 0) + (if e.receiver = n then 1 else 0)
    | none => 0).sum

/-- R81: every count equals the uses it stands for, and every use names something that is present. -/
def State.ReferencesAgree (s : State) : Prop :=
  (∀ n : StreamNo, (s.stream n).refs = s.countedWindows.count (.reserved n)) ∧
    (∀ n : StationIx, (s.station n).refs = s.streamUses n + s.countedWindows.count (.probe n)) ∧
    (∀ n : StreamNo, .reserved n ∈ s.countedWindows → (s.stream n).state ≠ .free) ∧
    (∀ n : StationIx, .probe n ∈ s.countedWindows → (s.station n).member.isSome) ∧
    (∀ n : StreamNo, ∀ e, (s.stream n).state.ends = some e →
      s.canStream e.transmitter e.receiver = true)

/-- R93: a stream is SUSPENDED exactly when it has a link whose grade is UNREACHABLE. -/
def State.StreamsFollowGrades (s : State) : Prop :=
  ∀ n : StreamNo, ∀ e, (s.stream n).state.ends = some e →
    ((s.stream n).state = .suspended e ↔ e.link.any s.unreachable = true)

/-- R32: while a sequencer is not STOPPED its current bank passes the schedule check, and a COUNTING bank
passes it at all times. -/
def State.SchedulesChecked (s : State) : Prop :=
  ∀ f,
    ((s.csq.get f).state ≠ .stopped → s.checkBank f (s.csq.get f).currentBank = .pass) ∧
      ((s.csq.get f).pendingState ≠ .edit → s.checkBank f (s.csq.get f).pendingBank = .pass)

/-! ### Chapter 6: reports and channel records (R97, R109, R110, R112) -/

/-- Whether a buffer is FILLING. -/
def Buffer.isFilling : Buffer → Bool
  | .filling _ => true
  | _ => false

/-- Whether a buffer is FULL. -/
def Buffer.isFull : Buffer → Bool
  | .full _ => true
  | _ => false

/-- Whether a buffer is FOLDING. -/
def Buffer.isFolding : Buffer → Bool
  | .folding _ => true
  | _ => false

/-- R97, R98, R110, R111: a buffer is FILLING exactly while the open report names it, FULL exactly while it
stands in the fold queue, once, and FOLDING exactly while its fold job is in hand. -/
def State.ReportsSound (s : State) : Prop :=
  (∀ f b, ((s.clc.get f).buffer b).isFilling = true ↔ ∃ gap, (s.clc.get f).report = .open_ b gap) ∧
    (∀ f b, ((s.clc.get f).buffer b).isFull = true ↔ ⟨f, b⟩ ∈ s.planner.foldQueue) ∧
    s.planner.foldQueue.Nodup ∧
    ∀ f b, ((s.clc.get f).buffer b).isFolding = true ↔ s.planner.engine = .folding ⟨f, b⟩

/-- R109, R112: every accumulator is within 0..1020 and every count of reports within 0..15. -/
def Link.ChannelSound (k : Link) : Prop :=
  ∀ z ∈ k.channel, z.sincePlan ≤ 15 ∧ ∀ g : Fin 96, z.groups[g].acc ≤ 1020

/-- The channel records of every LIVE link are sound. -/
def State.ChannelsSound (s : State) : Prop := ∀ l k, s.link l = some k → k.ChannelSound

/-! ### Chapters 7 and 9: the plan queue and the map sets (R118, R139, R155, R157) -/

/-- R118: a link is in the plan queue at most once, is LIVE, and has cause PLAN exactly in the normal class. -/
def State.PlanQueueSound (s : State) : Prop :=
  ((s.planner.urgent ++ s.planner.normal).map (·.link)).Nodup ∧
    (∀ e ∈ s.planner.urgent ++ s.planner.normal, (s.link e.link).isSome) ∧
    (∀ e ∈ s.planner.urgent, e.cause ≠ .plan) ∧ ∀ e ∈ s.planner.normal, e.cause = .plan

/-- R139, R155, R157: a NEXT set has ACTIVE's version plus one and a countdown of 1 or 2, and the pending cause
is held exactly with it. -/
def Link.SetsSound (k : Link) : Prop :=
  (∀ n, k.next = some n →
    n.maps.version = k.active.version + 1 ∧ 1 ≤ n.countdown ∧ n.countdown ≤ 2) ∧
    (k.record.pendingCause.isSome ↔ k.next.isSome)

/-- The map sets of every LIVE link are sound. -/
def State.SetsSound (s : State) : Prop := ∀ l k, s.link l = some k → k.SetsSound

/-- R109, R155: a link has one zone of channel records and one zone map in each of its sets for every zone of its
feed. -/
def State.LinkZonesMatch (s : State) (k : Link) : Prop :=
  k.channel.length = s.zoneCount k.record.feed ∧ k.active.zones.length = s.zoneCount k.record.feed ∧
    ∀ n, k.next = some n → n.maps.zones.length = s.zoneCount k.record.feed

/-- R164, R165: what fetch claim c of cycle link f names stands and holds the zone claimed; a set named by its role
is that of the LIVE link of the claim's generation, on the claim's own feed. -/
def State.ClaimNamesASet (s : State) (f : Feed) (c : FetchClaim) : Prop :=
  match c.named with
  | .kept m => c.zone < m.zones.length
  | .active => ∃ k, s.link c.link = some k ∧ k.record.feed = f ∧ k.record.generation = c.generation ∧
      c.zone < k.active.zones.length
  | .next => ∃ k n, s.link c.link = some k ∧ k.next = some n ∧ k.record.feed = f ∧
      k.record.generation = c.generation ∧ c.zone < n.maps.zones.length

/-- The plan job in hand with the zone maps computed, if there is one. -/
def Engine.job : Engine → Option (PlanJob × List ZoneMap)
  | .planning job zones => some (job, zones)
  | .waitingClaim job zones => some (job, zones)
  | _ => none

/-- R109, R122, R155, R164: the zones of every LIVE link match its feed, those of the plan job in hand match its link
while the link has the job's generation, and every fetch claim names a set that holds its zone. -/
def State.ZonesSound (s : State) : Prop :=
  (∀ l k, s.link l = some k → s.LinkZonesMatch k) ∧
    (∀ job zones k, s.planner.engine.job = some (job, zones) → s.link job.link = some k →
      k.record.generation = job.generation → zones.length = s.zoneCount k.record.feed) ∧
    ∀ f c, s.claims.get f = some c → s.ClaimNamesASet f c

/-- The plan job in hand is not of the generation that the next admission into its link's entry would give: the
8-bit generation has not come round to it while the job has been in hand. -/
def State.JobNotLapped (s : State) : Prop :=
  ∀ job zones, s.planner.engine.job = some (job, zones) → s.link job.link = none →
    (s.station (linkStation job.link)).generation + 1 ≠ job.generation

/-! ### Chapters 10 and 11: queues and the slot (R164, R169, R176, R191) -/

/-- R169: neither queue of a CLC holds more than 8 notices, and the general queue no two MAP_NEXT and no two
LINK_GRADE notices for one link. -/
def Clc.QueuesSound (c : Clc) : Prop :=
  c.timing.length ≤ 8 ∧ c.general.length ≤ 8 ∧
    c.general.Pairwise fun x y => GeneralNotice.coalesces x y = false

/-- Whether an event is the EVENTS_LOST marker. -/
def EventRecord.isMarker : EventRecord → Bool
  | .eventsLost _ => true
  | _ => false

/-- R191: at most 16 entries, of which the 16th is a marker, and a marker only as the newest entry. -/
def eventsSound (q : List EventRecord) : Prop :=
  q.length ≤ 16 ∧ (∀ e ∈ q.dropLast, e.isMarker = false) ∧
    (q.length = 16 → ∃ e, q.getLast? = some e ∧ e.isMarker = true)

/-- The queues of every CLC and of the MGP are sound. -/
def State.QueuesSound (s : State) : Prop :=
  (∀ f, (s.clc.get f).QueuesSound) ∧ eventsSound s.mgp.events

/-- R164, R176: a fetch claim of cycle link f is held exactly while its slot holds a MAP_DATA response. -/
def State.ClaimsMatchSlots (s : State) : Prop :=
  ∀ f, (s.claims.get f).isSome ↔ ((s.clc.get f).slot.map (·.response)) = some .mapData

/-! ### Words the claims are written in -/

/-- A management command has completed, with a code and result words, and with no other effect (R187). -/
def State.replies (s : State) (code : Byte) (params : List Word) (c : Completion) (words : List Word) :
    State :=
  s.setMgp (s.mgp.complete code params ⟨c, words⟩)

/-- The slot of a CLC holds a response for a TAG, begun or not (R176). -/
def Clc.Answers (c : Clc) (tag : Byte) (r : Response) : Prop := ∃ begun, c.slot = some ⟨tag, r, begun⟩

/-- The events queued once a frame has brought cycle link f UP, if it was DOWN (R173). -/
def State.eventsHeard (s : State) (f : Feed) : List EventRecord :=
  match (s.clc.get f).link with
  | .down => offerEventTo s.mgp.events (.linkState f true)
  | .up _ => s.mgp.events

/-- The state in which the owner of a good frame of cycle link f takes it: the link is UP with its deadline moved, and
the receiver waits (R173, R174). -/
def State.hearing (s : State) (f : Feed) : State :=
  { s with
    clc := s.clc.set f { s.clc.get f with link := .up (s.now + 100000), receiver := .waiting }
    mgp := { s.mgp with events := s.eventsHeard f } }

/-- The arrival of a good frame at CLC f, whatever its owner does: the link is UP with its deadline moved, the
receiver waits, the slot holds the response, and the other CLCs are as they were (R173, R174, R176). -/
def State.TookFrame (s t : State) (f : Feed) (tag : Byte) (r : Response) : Prop :=
  (t.clc.get f).Answers tag r ∧ (t.clc.get f).link = .up (s.now + Config.lossTicks) ∧
    (t.clc.get f).receiver = .waiting ∧ ∀ g, g ≠ f → t.clc.get g = s.clc.get g

/-- A frame has changed nothing outside CLC f but the event queue, and that only by LINK_STATE. -/
def State.OnlyLineOf (s t : State) (f : Feed) : Prop :=
  t = { s with clc := t.clc, mgp := { s.mgp with events := s.eventsHeard f } }

/-- A mains change of feed f has reached MTU f, CSQ f, the PDA, the CLCs and the event queue, and nothing else
(R13, R56, R58). -/
def State.OnlyMainsOf (s t : State) (f : Feed) : Prop :=
  t = { s with
      mtu := t.mtu
      csq := t.csq
      pda := t.pda
      clc := t.clc
      mgp := { s.mgp with events := t.mgp.events } } ∧
    ∀ g, g ≠ f → t.mtu.get g = s.mtu.get g ∧ t.csq.get g = s.csq.get g

/-- The state after code groups have been received one after the other on cycle link f. -/
def State.receiveAll (s : State) (f : Feed) (groups : List CodeGroup) : State :=
  groups.foldl
    (fun t g =>
      match exec (.symbolReceived f g) t with
      | .next u => u
      | _ => t)
    s

/-- The number of windows of a bank of a kind and target (R33). -/
def Bank.uses (b : Bank) (k : WindowKind) : Nat := (b.slotList.map fun i => (b.slot i).kind).count k

/-- Timing notices offered one after the other to CLC f. -/
def State.offersTiming (s : State) (f : Feed) (ns : List TimingNotice) : State :=
  ns.foldl (fun u n => u.offerTiming f n) s

/-- General notices offered one after the other to CLC f. -/
def State.offersGeneral (s : State) (f : Feed) (ns : List GeneralNotice) : State :=
  ns.foldl (fun u n => u.offerGeneral f n) s

/-- The notice of a window of the current bank of feed f: compact when its class is NONE and its index not 0
(R54, R55). -/
def State.windowNotice (s : State) (f : Feed) (i : SlotNo) (duration : Nat) (skipped : Bool) : TimingNotice :=
  if s.claimClass f ((s.csq.get f).currentBank.slot i) = none ∧ i ≠ 0 then
    .windowShort (s.windowInfo ((s.csq.get f).currentBank.slot i) i skipped)
  else
    .window (s.csq.get f).beaconCount (s.windowInfo ((s.csq.get f).currentBank.slot i) i skipped)
      (s.claimClass f ((s.csq.get f).currentBank.slot i)) duration

/-- A sequencer after a change of mains state: from RUNNING to HELD with nothing in progress and no claim, at ABSENT
or ACQUIRING; from HELD to WAITING_SYNC at LOCKED; otherwise as it was (R44, R51, R56, R57). -/
def Csq.afterMains (q : Csq) (new : MainsState) : Csq :=
  if q.state = .running ∧ (new = .absent ∨ new = .acquiring) then
    { q with state := .held, currentWindow := none, armed := [], halfIndex := 0, heldClaim := none }
  else if q.state = .held ∧ new = .locked then { q with state := .waitingSync }
  else q

/-- The FEED_STATE notices of a change of mains state, in the order of their offers: the MTU's, and the sequencer's
when it changes its state too. The MTU's carries the sequencer state before that change when it comes first (R13,
R58). -/
def Csq.feedStates (q : Csq) (f : Feed) (new : MainsState) (p : Nat) (order : ChangeOrder) : List GeneralNotice :=
  if (q.afterMains new).state = q.state then [.feedState f new q.state p]
  else
    [.feedState f new
        (match order with
          | .sequencerFirst => (q.afterMains new).state
          | .noticeFirst => q.state) p,
      .feedState f new (q.afterMains new).state p]

/-- A change of mains state has been handed to the sequencer, which withdraws a claim it held if it is now HELD, and
told on the cycle link (R13, R51, R56 to R58). -/
def State.MainsTold (s t : State) (f : Feed) (new : MainsState) (order : ChangeOrder) : Prop :=
  t.csq.get f = (s.csq.get f).afterMains new ∧
    t.pda = (if (s.csq.get f).heldClaim.isSome ∧ (t.csq.get f).heldClaim = none then (s.releaseDriver f).pda
      else s.pda) ∧
    (s.DriverSound →
      t.clc = (s.offersGeneral f ((s.csq.get f).feedStates f new (t.mtu.get f).period order)).clc)

/-- A CLC with the frame on the line cut and its queues and slot emptied, each lost mark set that has lost
something (R174 steps 2 to 4, R183 steps 1 to 3). -/
def Clc.emptied (c : Clc) (now : Nat) : Clc :=
  { c with
    transmitter := if c.transmitter.sending = none then c.transmitter else ⟨now + 4, none⟩
    slot := none
    dropped := c.dropped || c.slot.isSome
    timing := []
    timingLost := c.timingLost || !c.timing.isEmpty || c.sends .timing
    general := []
    generalLost := c.generalLost || !c.general.isEmpty || c.sends .general }

/-- The open report of CLC c, if there is one, has been abandoned silently in d, and nothing else has changed
(R107). -/
def Clc.ReportDropped (c d : Clc) : Prop :=
  d = { c with report := .idle, buf0 := d.buf0, buf1 := d.buf1 } ∧
    (∀ b gap r, c.report = .open_ b gap → c.buffer b = .filling r → d.buffer b = .free) ∧
    ∀ b, (∀ gap r, c.report = .open_ b gap → c.buffer b ≠ .filling r) → d.buffer b = c.buffer b

/-- An MTU on its entry into ABSENT: everything but P, the offset and the boundary list is cleared (R2); P_o of the
invalid origin record is kept (notes/assumptions/29.md). -/
def Mtu.Absent (m : Mtu) : Mtu :=
  ⟨.absent, m.period, [], none, none, none, 0, 0, none, none, m.originEstimate, m.offset, m.boundaries, []⟩

/-- An MTU with a fresh anchor: acquiring, with an empty history and the silence deadline set (R2, R8);
P_o of the invalid origin record is kept (notes/assumptions/29.md). -/
def Mtu.Anchored (m : Mtu) (now : Nat) (p : Polarity) : Mtu :=
  ⟨.acquiring, m.period, [], some ⟨now, p, .real⟩, some (now + 550000), none, 0, 0, none, none,
    m.originEstimate, m.offset, m.boundaries, []⟩

end Sys2Proof.Machine
end

