-- ==== Sys2Proof/Certificates/Slice0/Obligations.lean ====
section
/-! DEFINITION. The statements for the provers, by chapter of the manual. The whole part first. -/
open Sys2Proof Sys2Proof.Machine

/-! ### The machine: commands, the queue and idle steps -/

/-- With a command at the front of the queue, a step is that command's effect on the state with the queue's
rest. -/
def Obligations.StepRunsTheFrontCommand : Prop :=
  ∀ (c : Instr) (rest : List Instr) (s : State), s.pending = c :: rest →
    step s = exec c { s with pending := rest }

/-- The model's choice (notes/assumptions/1.md): on an empty queue a step is a tick when no event of a fixed
time is due, and otherwise the effect of one of the events due. -/
def Obligations.IdleStepTakesADueEventOrATick : Prop :=
  ∀ s : State, s.pending = [] →
    (s.dueEvents (s.choices + 1) = [] → step s = .next { s with now := s.now + 1 }) ∧
      (s.dueEvents (s.choices + 1) ≠ [] →
        ∃ c ∈ s.dueEvents (s.choices + 1), step s = exec c { s with choices := s.choices + 2 })

/-- Every command of every state has an outcome; it leaves the queue as it is, and, DEVICE_RESET apart, the tick
count. The model's choices here: that the tick count stands (notes/assumptions/1.md), that the counter of free
values does (notes/assumptions/2.md and 10.md), that DEVICE_RESET keeps the queue (notes/assumptions/10.md), and
that a command whose time or condition has not come answers a next state (notes/assumptions/5.md). -/
def Obligations.EveryCommandAnswersAndKeepsTheQueue : Prop :=
  ∀ (c : Instr) (s : State), ∃ t, exec c s = .next t ∧ t.pending = s.pending ∧
    t.choices = s.choices ∧ (c ≠ .deviceReset → t.now = s.now)

/-- DEVICE_RESET leaves every block with the values the manual gives for reset (R19, R42, R62, R63, R96, R115, R116,
R133, R155, R169, R185). That the queue is kept as it was is the model's choice (notes/assumptions/10.md). -/
def Obligations.DeviceResetRestoresEveryBlock : Prop :=
  ∀ s : State, ∃ t, exec .deviceReset s = .next t ∧ t.now = 0 ∧ t.pending = s.pending ∧
    (∀ f, t.mtu.get f = ⟨.absent, 0, [], none, none, none, 0, 0, none, none, 0, 0, [], []⟩) ∧
    (∀ f, (t.csq.get f).state = .stopped ∧ (t.csq.get f).beaconCount = 0 ∧
      (t.csq.get f).halfIndex = 0 ∧ (t.csq.get f).currentWindow = none ∧ (t.csq.get f).armed = [] ∧
      (t.csq.get f).heldClaim = none ∧ (t.csq.get f).halfCycle = ⟨0, .positive, 0⟩ ∧
      (t.csq.get f).current = .b0 ∧ (t.csq.get f).pendingState = .edit ∧
      (t.csq.get f).beaconLen = 4 ∧
      ∀ n, ((t.csq.get f).bank n).count = 0 ∧ ∀ i, ((t.csq.get f).bank n).slot i = ⟨0, 0, .beacon⟩) ∧
    t.pda = ⟨.free, none, none, none, PerFeed.all none, []⟩ ∧
    (∀ f, t.station (localStation f) = ⟨some ⟨f, 1⟩, 0, 0⟩) ∧
    (∀ n : StationIx, 3 ≤ n.val → t.station n = ⟨none, 0, 0⟩) ∧
    (∀ n, t.stream n = ⟨.free, 0⟩) ∧ (∀ l, t.link l = none) ∧
    (∀ f, t.notch.get f = 0 ∧ t.claims.get f = none) ∧ t.planner = ⟨.idle, [], [], []⟩ ∧
    (∀ f, (t.clc.get f).link = .down ∧ (t.clc.get f).receiver = .waiting ∧
      (t.clc.get f).transmitter.sending = none ∧ (t.clc.get f).slot = none ∧
      (t.clc.get f).dropped = false ∧ (t.clc.get f).timingLost = false ∧
      (t.clc.get f).generalLost = false ∧ (t.clc.get f).timing = [] ∧ (t.clc.get f).general = [] ∧
      (t.clc.get f).buf0 = .free ∧ (t.clc.get f).buf1 = .free ∧ (t.clc.get f).report = .idle) ∧
    t.mgp.command = .idle ∧ t.mgp.code = 0 ∧ t.mgp.announced = 0 ∧ t.mgp.params = [] ∧
    t.mgp.status = 0 ∧ t.mgp.results = [] ∧ t.mgp.flagWord = 0 ∧ t.mgp.events = [] ∧ t.mgp.mask = 0

/-! ### What every step keeps -/

/-- R7: every step keeps every MTU sound; in LOCKED and FREE_RUN, P is within 187,500..275,000. -/
def Obligations.StepsKeepThePeriodInBand : Prop :=
  ∀ s t : State, s.MainsSound → step s = .next t → t.MainsSound

/-- R63, R51: every step keeps the PDA sound, and the driver is held for a feed only while that feed's sequencer
is RUNNING. -/
def Obligations.StepsKeepTheDriverSound : Prop :=
  ∀ s t : State, s.DriverSound → step s = .next t → t.DriverSound

/-- R64: a step that changes DRV_SEL leaves DRV_EN low. -/
def Obligations.DriverSelectChangesOnlyWhileDisabled : Prop :=
  ∀ s t : State, step s = .next t → t.pda.drvSel ≠ s.pda.drvSel → t.pda.drvEn = false

/-- R77 to R80: every step keeps the local stations MEMBER of their feeds, the addresses of a feed's MEMBER stations
distinct, and every remote link LIVE exactly while its station is MEMBER, with the station's feed and generation. -/
def Obligations.StepsKeepStationsAndLinksSound : Prop :=
  ∀ s t : State, s.LocalsPresent ∧ s.LinksMatchStations ∧ s.AddressesDistinct → step s = .next t →
    t.LocalsPresent ∧ t.LinksMatchStations ∧ t.AddressesDistinct

/-- R81: every step keeps every reference count equal to the uses it stands for. -/
def Obligations.StepsKeepReferenceCounts : Prop :=
  ∀ s t : State, s.LocalsPresent → s.ReferencesAgree → step s = .next t → t.ReferencesAgree

/-- R93: every step keeps each stream SUSPENDED exactly while its link is UNREACHABLE. -/
def Obligations.StepsKeepStreamsFollowingGrades : Prop :=
  ∀ s t : State, s.LocalsPresent → s.LinksMatchStations → s.ReferencesAgree → s.StreamsFollowGrades →
    step s = .next t → t.StreamsFollowGrades

/-- R32: every step keeps the current bank of a sequencer that is not STOPPED passing the schedule check. -/
def Obligations.StepsKeepSchedulesChecked : Prop :=
  ∀ s t : State, s.LocalsPresent → s.ReferencesAgree → s.SchedulesChecked → step s = .next t →
    t.SchedulesChecked

/-- R22: no command but DEVICE_RESET changes a window of the current bank, or of a COUNTING one. -/
def Obligations.CurrentBankIsNeverWritten : Prop :=
  ∀ (c : Instr) (s t : State) (f : Feed), c ≠ .deviceReset → exec c s = .next t →
    (t.csq.get f).bank (s.csq.get f).current = (s.csq.get f).currentBank ∧
      ((s.csq.get f).pendingState ≠ .edit →
        (t.csq.get f).bank (s.csq.get f).pendingNo = (s.csq.get f).pendingBank)

/-- R97, R98, R110: every step keeps the report buffers, the report states, the fold queue and the fold in hand in
agreement. -/
def Obligations.StepsKeepReportBuffersSound : Prop :=
  ∀ s t : State, s.ReportsSound → step s = .next t → t.ReportsSound

/-- R109, R112, R122, R139, R155, R157, R164: every step keeps every accumulator within 0..1020, and NEXT's version
at ACTIVE's plus one, its countdown at 1 or 2, and the pending cause with it. It keeps the channel records and the
map sets of a link with one zone for every zone of its feed, and every fetch claim on a set that holds the zone
claimed, while the 8-bit generation does not come round to that of a plan job in hand. -/
def Obligations.StepsKeepChannelsAndSetsSound : Prop :=
  (∀ s t : State, s.ChannelsSound → step s = .next t → t.ChannelsSound) ∧
  (∀ s t : State, s.SetsSound → step s = .next t → t.SetsSound) ∧
  ∀ s t : State, s.LinksMatchStations → s.JobNotLapped → s.ZonesSound → step s = .next t → t.ZonesSound

/-- R118: every step keeps each link in the plan queue at most once. -/
def Obligations.StepsKeepThePlanQueueSound : Prop :=
  ∀ s t : State, s.PlanQueueSound → step s = .next t → t.PlanQueueSound

/-- R169, R191, R164, R176: every step keeps every queue within its size, without a second MAP_NEXT or LINK_GRADE
for a link and with the event queue's marker newest, and a fetch claim exactly while the slot holds its MAP_DATA. -/
def Obligations.StepsKeepQueuesAndSlotsSound : Prop :=
  (∀ s t : State, s.QueuesSound → step s = .next t → t.QueuesSound) ∧
  ∀ s t : State, s.ClaimsMatchSlots → step s = .next t → t.ClaimsMatchSlots

/-- The state after reset meets every one of these invariants. -/
def Obligations.ResetMeetsEveryInvariant : Prop :=
  State.reset.MainsSound ∧ State.reset.DriverSound ∧ State.reset.LocalsPresent ∧
    State.reset.LinksMatchStations ∧ State.reset.AddressesDistinct ∧ State.reset.ReferencesAgree ∧
    State.reset.StreamsFollowGrades ∧ State.reset.SchedulesChecked ∧ State.reset.ReportsSound ∧
    State.reset.ChannelsSound ∧ State.reset.PlanQueueSound ∧ State.reset.SetsSound ∧
    State.reset.QueuesSound ∧ State.reset.ClaimsMatchSlots ∧ State.reset.ZonesSound ∧
    State.reset.JobNotLapped

/-! ### Chapter 1: the mains timebase -/

/-- R2, R3, R13, R56, R58: in ABSENT any edge is the anchor of an acquisition, and the change is handed on: to the
MGP, to the sequencer, which leaves RUNNING for HELD, and to the cycle link as FEED_STATE. An edge in ACQUIRING that
does not complete the history is judged by its polarity and its interval from the anchor. That the invalid origin
record keeps its P_o is the model's choice (notes/assumptions/29.md). -/
def Obligations.EdgesBeforeLockAreJudged : Prop :=
  (∀ (f : Feed) (p : Polarity) (o : ChangeOrder) (s : State), (s.mtu.get f).state = .absent →
    ∃ t, exec (.mainsEdge f p o) s = .next t ∧
      t.mtu.get f = (s.mtu.get f).Anchored s.now p ∧
      t.mgp.events = offerEventTo s.mgp.events (.mainsState f .acquiring) ∧ s.OnlyMainsOf t f ∧
      s.MainsTold t f .acquiring o) ∧
  ∀ (f : Feed) (p : Polarity) (o : ChangeOrder) (s : State) (m : Mtu) (a : Crossing),
    s.mtu.get f = m → m.state = .acquiring → m.last = some a →
    (s.now - a.time < 187500 →
      exec (.mainsEdge f p o) s =
        .next { s with mtu := s.mtu.set f { m with silence := some (s.now + 550000) } }) ∧
    (187500 ≤ s.now - a.time → s.now - a.time ≤ 275000 → p ≠ a.polarity → m.history.length < 7 →
      exec (.mainsEdge f p o) s =
        .next { s with
          mtu := s.mtu.set f
            { m with
              silence := some (s.now + 550000)
              history := m.history ++ [s.now - a.time]
              last := some ⟨s.now, p, .real⟩ } }) ∧
    (187500 ≤ s.now - a.time → p = a.polarity ∨ 275000 < s.now - a.time →
      exec (.mainsEdge f p o) s =
        .next { s with
          mtu := s.mtu.set f
            { m with
              silence := some (s.now + 550000)
              history := []
              last := some ⟨s.now, p, .real⟩ } })

/-- R4, R13, R57, R58: the eighth interval locks the MTU; P is the floor of the mean, and the window and the origin
use it. The change is handed on, and takes a HELD sequencer to WAITING_SYNC. -/
def Obligations.EighthIntervalLocks : Prop :=
  ∀ (f : Feed) (p : Polarity) (o : ChangeOrder) (s : State) (m : Mtu) (a : Crossing) (e : Nat),
    s.mtu.get f = m → m.state = .acquiring → m.last = some a → m.history.length = 7 →
    p ≠ a.polarity → 187500 ≤ s.now - a.time → s.now - a.time ≤ 275000 →
    e = (m.history.sum + (s.now - a.time)) / 8 →
    ∃ t, exec (.mainsEdge f p o) s = .next t ∧
      t.mtu.get f =
        { m with
          state := .locked
          period := e
          history := m.history ++ [s.now - a.time]
          last := some ⟨s.now, p, .real⟩
          silence := none
          window := some ⟨s.now + e - e / 64, s.now + e + e / 64⟩
          deviantRun := 0
          missRun := 0
          pendingOrigin := some ⟨s.now + m.offset, p, e⟩ } ∧
      t.mgp.events = offerEventTo s.mgp.events (.mainsState f .locked) ∧ s.OnlyMainsOf t f ∧
      s.MainsTold t f .locked o

/-- R7, R13, R58: in LOCKED or FREE_RUN an edge of the expected polarity, inside the acceptance window and in band,
is a real crossing. In LOCKED nothing but the MTU changes; out of FREE_RUN the change is handed on. -/
def Obligations.EdgeInTheWindowIsAccepted : Prop :=
  ∀ (f : Feed) (p : Polarity) (o : ChangeOrder) (s : State) (m : Mtu) (a : Crossing) (w : AcceptWindow)
    (hist : List Nat) (e : Nat),
    s.mtu.get f = m → m.state = .locked ∨ m.state = .freeRun → m.last = some a → m.window = some w →
    p ≠ a.polarity → w.opens ≤ s.now → s.now ≤ w.closes →
    187500 ≤ s.now - a.time → s.now - a.time ≤ 275000 →
    (a.kind = .real → hist = m.history.drop 1 ++ [s.now - a.time] ∧ e = hist.sum / 8) →
    (a.kind = .synthesised → hist = m.history ∧ e = m.period) →
    ∃ t, exec (.mainsEdge f p o) s = .next t ∧
      t.mtu.get f =
        { m with
          state := .locked
          period := e
          history := hist
          last := some ⟨s.now, p, .real⟩
          window := some ⟨s.now + e - e / 64, s.now + e + e / 64⟩
          deviantRun := 0
          missRun := 0
          pendingOrigin := some ⟨s.now + m.offset, p, e⟩ } ∧
      s.OnlyMainsOf t f ∧
      (m.state = .locked → t = { s with mtu := t.mtu }) ∧
      (m.state = .freeRun → t.mgp.events = offerEventTo s.mgp.events (.mainsState f .locked) ∧
        s.MainsTold t f .locked o)

/-- R8, R13, R56, R58: in LOCKED or FREE_RUN an edge that is not accepted is ignored when short or long; in band it
is a deviant, and the fourth deviant is the anchor of a new acquisition, which is handed on and takes the sequencer
from RUNNING to HELD. That the invalid origin record keeps its P_o is the model's choice (notes/assumptions/29.md). -/
def Obligations.EdgeOutsideTheWindowIsDeviant : Prop :=
  ∀ (f : Feed) (p : Polarity) (o : ChangeOrder) (s : State) (m : Mtu) (a : Crossing) (w : AcceptWindow),
    s.mtu.get f = m → m.state = .locked ∨ m.state = .freeRun → m.last = some a → m.window = some w →
    (s.now - a.time < 187500 ∨ 275000 < s.now - a.time → exec (.mainsEdge f p o) s = .next s) ∧
    (187500 ≤ s.now - a.time → s.now - a.time ≤ 275000 →
      p = a.polarity ∨ s.now < w.opens ∨ w.closes < s.now →
      (m.deviantRun ≠ 3 →
        exec (.mainsEdge f p o) s =
          .next { s with mtu := s.mtu.set f { m with deviantRun := m.deviantRun + 1 } }) ∧
      (m.deviantRun = 3 → ∃ t, exec (.mainsEdge f p o) s = .next t ∧
        t.mtu.get f = m.Anchored s.now p ∧
        t.mgp.events = offerEventTo s.mgp.events (.mainsState f .acquiring) ∧ s.OnlyMainsOf t f ∧
        s.MainsTold t f .acquiring o))

/-- R5, R2, R9, R12, R13, R56, R58: at the silence deadline an acquiring MTU enters ABSENT and keeps P. When the
acceptance window expires with no accepted edge, a crossing is synthesised at T_last + P below 50 misses, its origin
late when its time has passed; at 50 the MTU enters ABSENT. A change is handed on, and ABSENT takes the sequencer
from RUNNING to HELD; before the deadline nothing happens. That the invalid origin record keeps its P_o is the
model's choice (notes/assumptions/29.md). That an expiry sent before it is due changes nothing is the model's choice
(notes/assumptions/5.md). -/
def Obligations.SilentMainsIsBridgedThenLost : Prop :=
  (∀ (f : Feed) (o : ChangeOrder) (s : State) (d : Nat),
    (s.mtu.get f).state = .acquiring → (s.mtu.get f).silence = some d →
    (d ≤ s.now → ∃ t, exec (.silenceDeadlineExpiry f o) s = .next t ∧
      t.mtu.get f = (s.mtu.get f).Absent ∧
      t.mgp.events = offerEventTo s.mgp.events (.mainsState f .absent) ∧ s.OnlyMainsOf t f ∧
      s.MainsTold t f .absent o) ∧
    (s.now < d → exec (.silenceDeadlineExpiry f o) s = .next s)) ∧
  ∀ (f : Feed) (o : ChangeOrder) (s : State) (m : Mtu) (a : Crossing) (w : AcceptWindow) (e : Nat),
    s.mtu.get f = m → m.state = .locked ∨ m.state = .freeRun → m.last = some a → m.window = some w →
    m.period = e →
    (s.now < w.closes → exec (.acceptanceWindowExpiry f o) s = .next s) ∧
    (w.closes ≤ s.now →
    (m.missRun < 49 → ∃ t, exec (.acceptanceWindowExpiry f o) s = .next t ∧
      t.mtu.get f =
        { m with
          state := .freeRun
          last := some ⟨a.time + e, opposite a.polarity, .synthesised⟩
          window := some ⟨a.time + e + e - e / 64, a.time + e + e + e / 64⟩
          missRun := m.missRun + 1
          pendingOrigin := some ⟨max (a.time + e + m.offset) s.now, opposite a.polarity, e⟩ } ∧
      s.OnlyMainsOf t f ∧
      (m.state = .freeRun → t = { s with mtu := t.mtu }) ∧
      (m.state = .locked → t.mgp.events = offerEventTo s.mgp.events (.mainsState f .freeRun) ∧
        s.MainsTold t f .freeRun o)) ∧
    (m.missRun = 49 → ∃ t, exec (.acceptanceWindowExpiry f o) s = .next t ∧
      t.mtu.get f = m.Absent ∧
      t.mgp.events = offerEventTo s.mgp.events (.mainsState f .absent) ∧ s.OnlyMainsOf t f ∧
      s.MainsTold t f .absent o))

/-- R11, R16, R44, R45, R47: when the pending origin's time arrives it is the origin record and the zone events of
the new half-cycle replace the old ones; the sequencer ignores it in STOPPED and HELD, and a negative one in
WAITING_SYNC; otherwise the half index advances and a beacon boundary counts. R15, R48: the first outstanding zone
event, once due, is delivered and removed; in RUNNING it gives a ZONE notice, and otherwise nothing. R46, R37, R49,
R52: the origin is played: a SKIPPED notice for each start left; at a boundary the count, the exchange of the banks
with SCHEDULE_SWAPPED when the countdown ends, BEACON_START, and the boundary handed to the Map Store and the Link
Supervisor; ZONE; the starts armed, of which one at phase 0 is played as a window start. The place of the handing on
is DEDUCED (notes/assumptions/13.md), and that the entry's FEED_STATE comes before these notices is DEDUCED too
(notes/assumptions/14.md). -/
def Obligations.OriginAndZonesOfAHalfCycle : Prop :=
  (∀ (f : Feed) (b : BoundaryOrder) (s : State) (m : Mtu) (q : Csq) (o : PendingOrigin),
    s.mtu.get f = m → s.csq.get f = q → m.pendingOrigin = some o → o.time ≤ s.now →
    ∃ t, exec (.origin f b) s = .next t ∧
      t.mtu = s.mtu.set f
        { m with
          pendingOrigin := none
          originMark := some ⟨o.time, o.polarity⟩
          originEstimate := o.estimate
          zonesDue := m.boundaries.zipIdx.map fun x =>
            ⟨x.2 + 1, x.1, o.time + x.1 * o.estimate / 256⟩ } ∧
      t.now = s.now ∧ t.notch = s.notch ∧ (∀ g, g ≠ f → t.csq.get g = s.csq.get g) ∧
      (q.state = .stopped ∨ q.state = .held ∨ q.state = .waitingSync ∧ o.polarity = .negative →
        t = { s with mtu := t.mtu }) ∧
      (q.state = .waitingSync → o.polarity = .positive →
        (t.csq.get f).state = .running ∧ (t.csq.get f).halfIndex = 0 ∧
          (t.csq.get f).beaconCount = q.beaconCount + 1 ∧
          (t.csq.get f).halfCycle = ⟨o.time, o.polarity, o.estimate⟩ ∧
          t = State.playHalf
            (({ s with
                mtu := t.mtu
                csq := s.csq.set f { q with state := .running } } : State).offerGeneral f
              (.feedState f m.state .running m.period)) f 0 ⟨o.time, o.polarity, o.estimate⟩ b) ∧
      (q.state = .running →
        (t.csq.get f).state = .running ∧
          (t.csq.get f).halfIndex = (q.halfIndex + 1) % q.beaconLen ∧
          (t.csq.get f).beaconCount =
            (if (q.halfIndex + 1) % q.beaconLen = 0 then q.beaconCount + 1 else q.beaconCount) ∧
          (t.csq.get f).halfCycle = ⟨o.time, o.polarity, o.estimate⟩ ∧
          t = State.playHalf { s with mtu := t.mtu } f ((q.halfIndex + 1) % q.beaconLen)
            ⟨o.time, o.polarity, o.estimate⟩ b)) ∧
  (∀ (f : Feed) (s : State) (m : Mtu) (q : Csq) (z : ZoneDue) (rest : List ZoneDue),
    s.mtu.get f = m → s.csq.get f = q → m.zonesDue = z :: rest → z.time ≤ s.now →
    (q.state ≠ .running →
      exec (.zoneEvent f) s = .next { s with mtu := s.mtu.set f { m with zonesDue := rest } }) ∧
    (q.state = .running →
      exec (.zoneEvent f) s =
        .next (({ s with mtu := s.mtu.set f { m with zonesDue := rest } } : State).offerTiming f
          (.zone q.halfIndex q.halfCycle.polarity z.zone z.phase (m.boundaries.length + 1))))) ∧
  (∀ (f : Feed) (b : BoundaryOrder) (s u : State) (q q1 : Csq) (h n : Nat) (r : OriginRecord) (zone : TimingNotice),
    s.csq.get f = q → u = s.offersTiming f (q.armed.map fun a => s.windowNotice f a.slot 0 true) →
    n = (s.mtu.get f).boundaries.length + 1 → zone = .zone h r.polarity 0 0 n →
    q1 = { q with armed := [], halfIndex := h, halfCycle := ⟨r.t0, r.polarity, r.estimate⟩ } →
    (h ≠ 0 →
      s.playHalf f h r b =
        (({ u with csq := s.csq.set f q1 } : State).offerTiming f zone).armStarts f) ∧
    (h = 0 → ∀ (q2 q3 : Csq) (w : State),
      q2 = { q1 with currentWindow := none, beaconCount := q.beaconCount + 1 } →
      (q.pendingState = .edit ∧ q3 = q2 ∧ w = u ∨
        (∃ c, q.pendingState = .counting c ∧ 1 < c ∧ q3 = { q2 with pendingState := .counting (c - 1) } ∧ w = u) ∨
        (∃ c, q.pendingState = .counting c ∧ c ≤ 1 ∧
          q3 = { q2 with current := q.pendingNo, pendingState := .edit } ∧
          w = { u with
            stations := (s.releaseBank q.currentBank).stations
            streams := (s.releaseBank q.currentBank).streams
            mgp := { s.mgp with
              events := offerEventTo s.mgp.events (.scheduleSwapped f (q.beaconCount + 1)) } })) →
      s.playHalf f h r b =
        (((({ w with csq := s.csq.set f q3 } : State).offerTiming f
          (.beaconStart (q.beaconCount + 1) r.estimate q.beaconLen n
            (match q3.pendingState with
              | .edit => 0
              | .counting c => c))).handBoundary f b).offerTiming f zone).armStarts f)) ∧
  (∀ (f : Feed) (s : State),
    s.handBoundary f .storeFirst =
        (s.liveLinks f).foldl State.idleLink ((s.liveLinks f).foldl State.countLink s) ∧
      s.handBoundary f .supervisorFirst =
        (s.liveLinks f).foldl State.countLink ((s.liveLinks f).foldl State.idleLink s)) ∧
  ∀ (f : Feed) (s u : State) (q : Csq) (starts : List ArmedStart),
    s.csq.get f = q →
    starts = ((List.finRange 32).filter fun i =>
        i.val < q.currentBank.count.val && (q.currentBank.slot i).half.val = q.halfIndex).map (fun i =>
      (⟨i, q.halfCycle.t0 + (q.currentBank.slot i).phase.val * q.halfCycle.estimate / 256⟩ : ArmedStart)) →
    u = { s with csq := s.csq.set f { q with armed := starts } } →
    ((∀ a rest, starts = a :: rest → (q.currentBank.slot a.slot).phase.val ≠ 0) → s.armStarts f = u) ∧
    (∀ a rest, starts = a :: rest → (q.currentBank.slot a.slot).phase.val = 0 → q.state = .running →
      q.halfCycle.t0 ≤ s.now → .next (s.armStarts f) = exec (.windowStart f) u)

/-! ### Chapters 2 to 4: windows, the sequencer and the panel driver -/

/-- R50, R54, R55: the first armed start of a RUNNING sequencer, once reached, ends the window in progress; the
class is derived, the notice offered in its full or compact form, and the claim handed to the PDA after it, with the
tick of the start as its window start time (DEDUCED, notes/assumptions/28.md). R51: the class is handed as a new
claim, a replacement, a release or nothing. R26: the estimated duration runs to the next window, or to the next
boundary, and is capped. R54: the notice carries the record, and the addresses of the stations the window names. -/
def Obligations.WindowStartPlaysTheWindow : Prop :=
  (∀ (f : Feed) (s : State) (q : Csq) (a : ArmedStart) (rest : List ArmedStart) (w : Window)
    (cls : ClaimClass),
    s.csq.get f = q → q.state = .running → q.armed = a :: rest → a.time ≤ s.now →
    w = q.currentBank.slot a.slot → cls = s.claimClass f w →
    (∃ t, exec (.windowStart f) s = .next t ∧
      t.csq = s.csq.set f
        { q with
          currentWindow := some a.slot
          armed := q.armed.filter (·.slot ≠ a.slot)
          heldClaim := cls } ∧
      t = { s with csq := t.csq, pda := t.pda, clc := t.clc, mgp := { s.mgp with events := t.mgp.events } } ∧
      (cls = none → q.heldClaim = none → t.pda = s.pda)) ∧
    exec (.windowStart f) s =
      .next (((({ s with
          csq := s.csq.set f
            { q with
              currentWindow := some a.slot
              armed := q.armed.filter (·.slot ≠ a.slot) } } : State).offerTiming f
        (if cls = none ∧ a.slot ≠ 0 then .windowShort (s.windowInfo w a.slot false)
         else
          .window q.beaconCount (s.windowInfo w a.slot false) cls
            (q.currentBank.duration a.slot q.beaconLen q.halfCycle.estimate)))).handClaim f cls a.slot)) ∧
  (∀ (f : Feed) (s u : State) (q : Csq) (c old : DriverClass) (cls : ClaimClass) (i : SlotNo),
    s.csq.get f = q → u = { s with csq := s.csq.set f { q with heldClaim := cls } } →
    (cls = some c → q.heldClaim = none → s.handClaim f cls i = u.claimArrives f ⟨c, i, s.now, .waiting⟩) ∧
    (cls = some c → q.heldClaim = some old → s.handClaim f cls i = u.replaceClaim f c i s.now) ∧
    (cls = none → q.heldClaim = some old → s.handClaim f cls i = u.releaseDriver f) ∧
    (cls = none → q.heldClaim = none → s.handClaim f cls i = s)) ∧
  (∀ (b : Bank) (i j : SlotNo) (len p a : Nat), a = (b.slot i).phase.val * p / 256 →
    (i.val + 1 = j.val → j.val < b.count.val →
      b.duration i len p = min 16777215
        (if (b.slot i).half.val = (b.slot j).half.val then (b.slot j).phase.val * p / 256 - a
         else (p - a) + ((b.slot j).half.val - (b.slot i).half.val - 1) * p + (b.slot j).phase.val * p / 256)) ∧
    (b.count.val ≤ i.val + 1 →
      b.duration i len p = min 16777215 ((p - a) + (len - (b.slot i).half.val - 1) * p))) ∧
  ∀ (s : State) (w : Window) (i : SlotNo) (skipped : Bool) (x : WindowInfo), s.windowInfo w i skipped = x →
    x.half = w.half ∧ x.phase = w.phase ∧ x.index = i ∧ x.kind = kindName w.kind ∧ x.skipped = skipped ∧
    (∀ n e, w.kind = .reserved n → (s.stream n).state.ends = some e →
      x.transmitter = (s.station e.transmitter).member.map (·.address) ∧
        x.receiver = (s.station e.receiver).member.map (·.address)) ∧
    ((∀ n, w.kind ≠ .reserved n) → x.transmitter = none ∧ x.receiver = none) ∧
    (∀ n, w.kind = .probe n → x.probe = (s.station n).member.map (·.address)) ∧
    ((∀ n, w.kind ≠ .probe n) → x.probe = none)

/-- R66 to R69: at the end of a switch a target's claim is granted, LATE when it comes more than 2,500 ticks after
its window's start, and the head of the waiting list is then judged against it; with no claim the driver is FREE and
the list is served; before the completion is due nothing happens. An arriving claim is enabled at once or starts a
switch at FREE; it preempts a holder of a lower class, which is told LOST; it waits otherwise, with a WAITING
notice, and R75 a DRIVER_CONFLICT event for a beacon; towards its own feed a switch takes it as its target (R72).
R73: it joins the list behind every claim of an equal or higher class. R70 to R72: a replacement changes the claim
in its place, and a release or withdrawal removes it. That a release with a claim waiting serves its head before a
preempting claim of the same tick that is taken after it is the model's choice between two readings of R76
(notes/assumptions/32.md). That a completion sent when the driver is not SWITCHING, or before it is due, changes
nothing is the model's choice (notes/assumptions/5.md). -/
def Obligations.DriverIsSwitchedGrantedAndWaitedFor : Prop :=
  (∀ (s : State), (s.pda.driver ≠ .switching ∨ ∀ d, s.pda.switchAt = some d → s.now < d) →
    exec .switchCompletion s = .next s) ∧
  (∀ (s : State) (f : Feed) (d : Nat),
    s.pda.driver = .switching → s.pda.switchAt = some d → s.pda.connected = some f → d ≤ s.now →
    (∀ c u, s.pda.claims.get f = some c →
      u = ({ s with
          pda :=
            { s.pda with
              driver := .enabled
              switchAt := none
              holder := some ⟨f, c.cls⟩
              claims := s.pda.claims.set f (some { c with status := .holding }) } } : State).offerTiming f
          (.driver (.granted (c.start + 2500 < s.now)) c.window c.cls) →
      (s.pda.waiting = [] → exec .switchCompletion s = .next u) ∧
      (∀ g rest x, s.pda.waiting = g :: rest → g ≠ f → s.pda.claims.get g = some x →
        (classCode (some x.cls) ≤ classCode (some c.cls) → exec .switchCompletion s = .next u) ∧
        (classCode (some c.cls) < classCode (some x.cls) →
          exec .switchCompletion s =
            .next { u.offerTiming f (.driver (.lost (some g)) c.window c.cls) with
              pda :=
                { s.pda with
                  driver := .switching
                  connected := some g
                  switchAt := some (s.now + 2500)
                  holder := none
                  claims := (s.pda.claims.set f none).set g (some { x with status := .target })
                  waiting := s.pda.waiting.filter (· ≠ g) } }))) ∧
    (s.pda.claims.get f = none → s.pda.waiting = [] →
      exec .switchCompletion s =
        .next { s with pda := { s.pda with driver := .free, switchAt := none, holder := none } }) ∧
    (∀ g c rest, s.pda.claims.get f = none → s.pda.waiting = g :: rest → g ≠ f → g ∉ rest →
      s.pda.claims.get g = some c →
      exec .switchCompletion s =
        .next { s with
          pda :=
            { s.pda with
              driver := .switching
              connected := some g
              switchAt := some (s.now + 2500)
              holder := none
              claims := s.pda.claims.set g (some { c with status := .target })
              waiting := rest } })) ∧
  (∀ (s : State) (f : Feed) (c : ClaimRecord),
    (s.pda.driver = .free → s.pda.connected ≠ some f →
      s.claimArrives f c =
        { s with
          pda :=
            { s.pda with
              driver := .switching
              connected := some f
              switchAt := some (s.now + 2500)
              holder := none
              claims := s.pda.claims.set f (some { c with status := .target }) } }) ∧
    (s.pda.driver = .free → s.pda.connected = some f →
      (s.claimArrives f c).pda.driver = .enabled ∧
        (s.claimArrives f c).pda.holder = some ⟨f, c.cls⟩ ∧
        s.claimArrives f c =
          ({ s with
            pda :=
              { s.pda with
                driver := .enabled
                switchAt := none
                holder := some ⟨f, c.cls⟩
                claims := s.pda.claims.set f (some { c with status := .holding }) } } : State).offerTiming f
            (.driver (.granted (c.start + 2500 < s.now)) c.window c.cls)) ∧
    (s.pda.driver = .switching → s.pda.connected = some f →
      s.claimArrives f c =
        { s with pda := { s.pda with claims := s.pda.claims.set f (some { c with status := .target }) } }) ∧
    (∀ h old, s.pda.driver = .enabled → s.pda.holder = some h → h.feed ≠ f →
      s.pda.claims.get h.feed = some old →
      (c.cls = .beacon ∧ h.cls ≠ .beacon ∨ c.cls = .hard ∧ h.cls = .soft →
        (s.claimArrives f c).pda.driver = .switching ∧
          (s.claimArrives f c).pda.connected = some f ∧
          (s.claimArrives f c).pda.switchAt = some (s.now + 2500) ∧
          (s.claimArrives f c).pda.claims.get h.feed = none ∧
          (s.claimArrives f c).pda.claims.get f = some { c with status := .target } ∧
          (s.claimArrives f c).pda.waiting = s.pda.waiting ∧
          (s.claimArrives f c).clc =
            (s.offerTiming h.feed (.driver (.lost (some f)) old.window old.cls)).clc) ∧
      (c.cls = .soft ∨ c.cls = h.cls ∨ h.cls = .beacon →
        (s.claimArrives f c).pda.driver = .enabled ∧
          (s.claimArrives f c).pda.holder = some h ∧
          (s.claimArrives f c).pda.connected = s.pda.connected ∧
          f ∈ (s.claimArrives f c).pda.waiting ∧
          (s.claimArrives f c).mgp.events =
            (if c.cls = .beacon then offerEventTo s.mgp.events (.driverConflict f c.window)
             else s.mgp.events))) ∧
    (s.pda.driver = .switching ∧ s.pda.connected ≠ some f ∨
        (∃ h, s.pda.driver = .enabled ∧ s.pda.holder = some h ∧
          (c.cls = .soft ∨ c.cls = h.cls ∨ h.cls = .beacon)) →
      ∃ pre post, s.pda.waiting = pre ++ post ∧
        (∀ g ∈ pre, ∀ x, s.pda.claims.get g = some x → classCode (some c.cls) ≤ classCode (some x.cls)) ∧
        (∀ g x, post.head? = some g → s.pda.claims.get g = some x →
          classCode (some x.cls) < classCode (some c.cls)) ∧
        s.claimArrives f c =
          { ({ s with
              pda :=
                { s.pda with
                  waiting := pre ++ f :: post
                  claims := s.pda.claims.set f (some { c with status := .waiting }) } } : State).offerTiming f
              (.driver (.waiting s.pda.connected) c.window c.cls) with
            mgp :=
              { s.mgp with
                events :=
                  if c.cls = .beacon then offerEventTo s.mgp.events (.driverConflict f c.window)
                  else s.mgp.events } })) ∧
  (∀ (s : State) (f : Feed) (cls : DriverClass) (w : SlotNo) (start : Nat) (old : ClaimRecord),
    (s.pda.claims.get f = none → s.replaceClaim f cls w start = s.claimArrives f ⟨cls, w, start, .waiting⟩) ∧
    (s.pda.claims.get f = some old → old.status = .target →
      s.replaceClaim f cls w start =
        { s with pda := { s.pda with claims := s.pda.claims.set f (some ⟨cls, w, start, .target⟩) } }) ∧
    (s.pda.claims.get f = some old → old.status = .waiting →
      s.replaceClaim f cls w start =
        ({ s with
          pda :=
            { s.pda with
              waiting := s.pda.waiting.filter (· ≠ f)
              claims := s.pda.claims.set f none } } : State).claimArrives f ⟨cls, w, start, .waiting⟩) ∧
    (∀ u, s.pda.claims.get f = some old → old.status = .holding →
      u = ({ s with
          pda :=
            { s.pda with
              holder := some ⟨f, cls⟩
              claims := s.pda.claims.set f (some ⟨cls, w, start, .holding⟩) } } : State).offerTiming f
          (.driver (.granted false) w cls) →
      (s.pda.waiting = [] → s.replaceClaim f cls w start = u) ∧
      (∀ g rest x, s.pda.waiting = g :: rest → g ≠ f → s.pda.claims.get g = some x →
        (classCode (some x.cls) ≤ classCode (some cls) → s.replaceClaim f cls w start = u) ∧
        (classCode (some cls) < classCode (some x.cls) →
          s.replaceClaim f cls w start =
            { u.offerTiming f (.driver (.lost (some g)) w cls) with
              pda :=
                { s.pda with
                  driver := .switching
                  connected := some g
                  switchAt := some (s.now + 2500)
                  holder := none
                  claims := (s.pda.claims.set f none).set g (some { x with status := .target })
                  waiting := s.pda.waiting.filter (· ≠ g) } })))) ∧
  ∀ (s : State) (f : Feed) (old : ClaimRecord),
    (s.pda.claims.get f = none → s.releaseDriver f = s) ∧
    (s.pda.claims.get f = some old → old.status = .target →
      s.releaseDriver f = { s with pda := { s.pda with claims := s.pda.claims.set f none } }) ∧
    (s.pda.claims.get f = some old → old.status = .waiting →
      s.releaseDriver f =
        { s with
          pda :=
            { s.pda with waiting := s.pda.waiting.filter (· ≠ f), claims := s.pda.claims.set f none } }) ∧
    (s.pda.claims.get f = some old → old.status = .holding → s.pda.waiting = [] →
      s.releaseDriver f =
        { s with
          pda :=
            { s.pda with
              driver := .free
              switchAt := none
              holder := none
              claims := s.pda.claims.set f none } }) ∧
    (∀ g rest x, s.pda.claims.get f = some old → old.status = .holding → s.pda.waiting = g :: rest →
      g ≠ f → s.pda.connected = some f → s.pda.claims.get g = some x →
      s.releaseDriver f =
        { s with
          pda :=
            { s.pda with
              driver := .switching
              connected := some g
              switchAt := some (s.now + 2500)
              holder := none
              claims := (s.pda.claims.set f none).set g (some { x with status := .target })
              waiting := s.pda.waiting.filter (· ≠ g) } })

/-! ### The management port: collecting, completing and reading -/

/-- R186, R187: a command word written in IDLE is latched and withdraws the last outcome; with words announced the
port collects them, and the last one, or a word that announces none, brings the command to EXECUTING, where it stays
or completes at once as its code and words spell. Any other write of the two ports is ignored and sets
WRITE_IGNORED. The model's choices here: that the write carries whether the command completes at once or later
(notes/assumptions/25.md and 26.md), that UNKNOWN_COMMAND stands for the command its code and words spell
(notes/assumptions/8.md), and what the latch and the parameter list hold after completion (notes/assumptions/6.md,
unsafe). -/
def Obligations.PortWordsAreCollectedOrIgnored : Prop :=
  (∀ (w : Word) (time : CompletionTime) (s : State),
    (s.mgp.command ≠ .idle →
      exec (.commandWordWrite w time) s = .next { s with mgp := { s.mgp with writeIgnored := true } }) ∧
    (s.mgp.command = .idle → (w.toNat % 256 ≠ 0 ∨ time = .later) →
      exec (.commandWordWrite w time) s =
        .next { s with
          mgp :=
            { s.mgp with
              command := if w.toNat % 256 = 0 then .executing else .collecting
              code := BitVec.ofNat 8 (w.toNat / 256)
              announced := BitVec.ofNat 8 (w.toNat % 256)
              params := []
              results := []
              readPos := 0
              statusReady := false
              dataReady := false } }) ∧
    (s.mgp.command = .idle → w.toNat % 256 = 0 →
      exec (.commandWordWrite w .atOnce) s =
        exec (.unknownCommand (BitVec.ofNat 8 (w.toNat / 256)) [])
          { s with
            mgp :=
              { s.mgp with
                command := .executing
                code := BitVec.ofNat 8 (w.toNat / 256)
                announced := 0
                params := []
                results := []
                readPos := 0
                statusReady := false
                dataReady := false } }) ∧
    (s.mgp.command = .idle → w = 0x5000 → s.mgp.events = [] →
      exec (.commandWordWrite w .atOnce) s =
        .next (s.replies 0x50 [] .ok []))) ∧
  ∀ (w : Word) (time : CompletionTime) (s : State),
    (s.mgp.command ≠ .collecting →
      exec (.paramWrite w time) s = .next { s with mgp := { s.mgp with writeIgnored := true } }) ∧
    (s.mgp.command = .collecting → s.mgp.params.length + 1 < s.mgp.announced.toNat →
      exec (.paramWrite w time) s =
        .next { s with mgp := { s.mgp with params := s.mgp.params ++ [w] } }) ∧
    (s.mgp.command = .collecting → s.mgp.announced.toNat ≤ s.mgp.params.length + 1 →
      exec (.paramWrite w .later) s =
        .next { s with mgp := { s.mgp with params := s.mgp.params ++ [w], command := .executing } } ∧
      exec (.paramWrite w .atOnce) s =
        exec (.unknownCommand s.mgp.code (s.mgp.params ++ [w]))
          { s with mgp := { s.mgp with params := s.mgp.params ++ [w], command := .executing } })

/-- R187, section 11.3: each command of the table is what its code and words spell; an unknown code, or a count of
words that differs from the one the command takes, completes BAD_PARAM with no result words and nothing else done.
The model's choices here: that UNKNOWN_COMMAND with a known code and count is that command (notes/assumptions/8.md),
when the port admits it, and what the latch and the parameter list hold after completion (notes/assumptions/6.md,
unsafe). -/
def Obligations.CodeAndWordsAreJudged : Prop :=
  (∀ (a b c d e f g h i j : Word) (s : State),
    exec (.unknownCommand 0x01 [a, b, c, d, e, f, g, h, i, j]) s =
      exec (.feedConfigure a b c d e f g h i j) s ∧
    exec (.unknownCommand 0x02 [a, b, c, d, e, f, g]) s = exec (.notchSet a b c d e f g) s ∧
    exec (.unknownCommand 0x03 [a]) s = exec (.seqStart a) s ∧
    exec (.unknownCommand 0x04 [a]) s = exec (.seqStop a) s ∧
    exec (.unknownCommand 0x05 [a]) s = exec (.feedRestart a) s ∧
    exec (.unknownCommand 0x10 [a, b, c, d, e, f]) s = exec (.windowWrite a b c d e f) s ∧
    exec (.unknownCommand 0x11 [a, b]) s = exec (.windowCount a b) s ∧
    exec (.unknownCommand 0x12 [a, b, c]) s = exec (.windowRead a b c) s ∧
    exec (.unknownCommand 0x13 [a, b]) s = exec (.scheduleActivate a b) s ∧
    exec (.unknownCommand 0x14 [a]) s = exec (.scheduleCancel a) s ∧
    exec (.unknownCommand 0x20 [a, b]) s = exec (.stationAdd a b) s ∧
    exec (.unknownCommand 0x21 [a]) s = exec (.stationRemove a) s ∧
    exec (.unknownCommand 0x22 [a]) s = exec (.stationRead a) s ∧
    exec (.unknownCommand 0x23 [a, b]) s = exec (.streamCreate a b) s ∧
    exec (.unknownCommand 0x24 [a]) s = exec (.streamDelete a) s ∧
    exec (.unknownCommand 0x25 [a]) s = exec (.streamRead a) s ∧
    exec (.unknownCommand 0x30 [a, b, c]) s = exec (.linkSet a b c) s ∧
    exec (.unknownCommand 0x31 [a]) s = exec (.linkRead a) s ∧
    exec (.unknownCommand 0x32 [a, b, c]) s = exec (.mapRead a b c) s ∧
    exec (.unknownCommand 0x33 [a]) s = exec (.planNow a) s ∧
    exec (.unknownCommand 0x34 [a, b, c]) s = exec (.channelRead a b c) s ∧
    exec (.unknownCommand 0x40 [a]) s = exec (.positionRead a) s ∧
    exec (.unknownCommand 0x50 []) s = exec .eventRead s ∧
    exec (.unknownCommand 0x51 [a]) s = exec (.eventMask a) s) ∧
  ∀ (code : Byte) (params : List Word) (s : State), commandKnown code.toNat params.length = false →
    s.mgp.admits code params = true →
    exec (.unknownCommand code params) s = .next (s.replies code params .badParam [])

/-- R187, R188: completion fills the status word and the result buffer, sets STATUS_READY, sets DATA_READY when
there is a result word, and returns the port to IDLE. The status and data ports return their words on BUS_D and
leave behind what R188 says; a read of port 2 returns the flag word, whose bits are those of R188, and a read of
port 3 returns 0, both changing nothing else; writes to ports 2 and 3 change nothing. The reads of ports 2 and 3
have no row in the command table, so they are stated of the port itself (notes/assumptions/21.md). -/
def Obligations.PortShowsTheCompletedCommand : Prop :=
  (∀ (code : Byte) (params : List Word) (c : Completion) (words : List Word) (s : State),
    words.length < 256 →
    (s.replies code params c words).mgp.command = .idle ∧
    (s.replies code params c words).mgp.status.toNat = 256 * completionCode c + words.length ∧
    (s.replies code params c words).mgp.results = words ∧
    (s.replies code params c words).mgp.readPos = 0 ∧
    (s.replies code params c words).mgp.statusReady = true ∧
    ((s.replies code params c words).mgp.dataReady = true ↔ words ≠ []) ∧
    (s.replies code params c words).mgp.events = s.mgp.events ∧
    (s.replies code params c words).mgp.mask = s.mgp.mask) ∧
  (∀ (s : State) (p : DeadPort) (v : Word),
    (s.mgp.command = .idle →
      exec .statusRead s =
        .next { s with
          mgp :=
            { s.mgp with statusReady := false, writeIgnored := false, busOut := s.mgp.status } }) ∧
    (s.mgp.command ≠ .idle →
      exec .statusRead s =
        .next { s with mgp := { s.mgp with writeIgnored := false, busOut := 0x0100 } }) ∧
    (∀ w, s.mgp.results[s.mgp.readPos]? = some w →
      exec .resultRead s =
        .next { s with
          mgp :=
            { s.mgp with
              busOut := w
              readPos := s.mgp.readPos + 1
              dataReady := s.mgp.dataReady && (s.mgp.readPos + 1 < s.mgp.results.length) } }) ∧
    (s.mgp.results[s.mgp.readPos]? = none →
      exec .resultRead s = .next { s with mgp := { s.mgp with busOut := 0 } }) ∧
    exec (.ignoredWrite p v) s = .next s ∧
    exec .statusRead s = .next { s with mgp := s.mgp.readPort 0 } ∧
    exec .resultRead s = .next { s with mgp := s.mgp.readPort 1 }) ∧
  ∀ m : Mgp, m.readPort 2 = { m with busOut := m.flagWord } ∧ m.readPort 3 = { m with busOut := 0x0000 } ∧
    (m.flagWord.getLsbD 0 = true ↔ m.command ≠ .idle) ∧
    (m.flagWord.getLsbD 1 = true ↔ m.command = .collecting) ∧
    m.flagWord.getLsbD 2 = m.statusReady ∧ m.flagWord.getLsbD 3 = m.dataReady ∧
    (m.flagWord.getLsbD 4 = true ↔ m.events ≠ []) ∧ m.flagWord.getLsbD 5 = m.writeIgnored ∧
    ∀ i, 6 ≤ i → m.flagWord.getLsbD i = false

/-- R192, R189: EVENT_READ returns and removes the head of the event queue, with the number of entries left;
EVENT_MASK replaces the mask by bits 1..7 of its word and returns it; INT_N follows the mask, the head and
STATUS_READY. R191: an offered event joins the tail below 15 entries; the event that finds 15 is replaced by a
marker, and one that finds the marker raises its count, saturating; the class codes and fields are those of R191's
table. What the latch and the parameter list hold after completion is the model's choice (notes/assumptions/6.md,
unsafe). -/
def Obligations.EventsAreReadAndMasked : Prop :=
  (∀ s : State, s.mgp.admits 0x50 [] = true →
    (s.mgp.events = [] → exec .eventRead s = .next (s.replies 0x50 [] .ok [])) ∧
    (∀ e rest, s.mgp.events = e :: rest →
      exec .eventRead s =
        .next (({ s with mgp := { s.mgp with events := rest } } : State).replies 0x50 [] .ok
          ([word (eventClass e)] ++ eventFields e ++ [word rest.length])))) ∧
  (∀ (w : Word) (s : State), s.mgp.admits 0x51 [w] = true →
    ∃ t m, exec (.eventMask w) s = .next t ∧
      t = ({ s with mgp := { s.mgp with mask := m } } : State).replies 0x51 [w] .ok [m.setWidth 16] ∧
      (∀ c < 8, m.getLsbD c = (w.getLsbD c && decide (c ≠ 0))) ∧
      ∀ u : Mgp, (u.interrupting = true ↔
        u.statusReady = true ∨ ∃ e rest, u.events = e :: rest ∧ u.mask.getLsbD (eventClass e) = false)) ∧
  (∀ (q : List EventRecord) (e : EventRecord) (n : Nat),
    ((∀ x, q.getLast? = some x → x.isMarker = false) → q.length < 15 → offerEventTo q e = q ++ [e]) ∧
    ((∀ x, q.getLast? = some x → x.isMarker = false) → 15 ≤ q.length →
      offerEventTo q e = q ++ [.eventsLost 1]) ∧
    offerEventTo (q ++ [.eventsLost n]) e = q ++ [.eventsLost (min (n + 1) 65535)]) ∧
  ∀ (f : Feed) (a : Byte) (l : LinkNo) (o g : Grade) (m : MainsState) (c : Word) (i : SlotNo) (up : Bool) (n : Nat),
    (eventClass (.stationHeard f a) = 1 ∧
      eventFields (.stationHeard f a) = [word (feedIndex f), word a.toNat, 0]) ∧
    (eventClass (.linkGrade l o g) = 2 ∧
      eventFields (.linkGrade l o g) = [word l.val, word (gradeCode o), word (gradeCode g)]) ∧
    (eventClass (.mainsState f m) = 3 ∧
      eventFields (.mainsState f m) = [word (feedIndex f), word (mainsCode m), 0]) ∧
    (eventClass (.scheduleSwapped f c) = 4 ∧ eventFields (.scheduleSwapped f c) = [word (feedIndex f), c, 0]) ∧
    (eventClass (.driverConflict f i) = 5 ∧
      eventFields (.driverConflict f i) = [word (feedIndex f), word i.val, 0]) ∧
    (eventClass (.linkState f up) = 6 ∧
      eventFields (.linkState f up) = [word (feedIndex f), if up then 1 else 0, 0]) ∧
    (eventClass (.eventsLost n) = 7 ∧ eventFields (.eventsLost n) = [word n, 0, 0])

/-! ### Feeds and schedules at the port -/

/-- R190, R18, R27, R41, R78: on a STOPPED feed with no remote station and good fields FEED_CONFIGURE applies them
all, returns a COUNTING bank to EDIT and releases its references, and leaves of the half-cycle's zone events those
of the new list that begin later than the completion; a bad feed or field, or a feed that is not ready, is refused
with nothing applied. What the latch and the parameter list hold after completion is the model's choice
(notes/assumptions/6.md, unsafe). -/
def Obligations.FeedConfigureAppliesItsFields : Prop :=
  ∀ (feed o p a n b1 b2 b3 b4 b5 : Word) (s : State) (ps : List Word) (f : Feed) (bs : List Nat),
    ps = [feed, o, p, a, n, b1, b2, b3, b4, b5] → s.mgp.admits 0x01 ps = true →
    bs = [b1.toNat, b2.toNat, b3.toNat, b4.toNat, b5.toNat].take n.toNat →
    (feedOf feed = none →
      exec (.feedConfigure feed o p a n b1 b2 b3 b4 b5) s = .next (s.replies 0x01 ps .badParam [])) ∧
    (feedOf feed = some f → (s.csq.get f).state ≠ .stopped ∨ s.remoteMember f = true →
      exec (.feedConfigure feed o p a n b1 b2 b3 b4 b5) s = .next (s.replies 0x01 ps .wrongState [])) ∧
    (feedOf feed = some f → (s.csq.get f).state = .stopped → s.remoteMember f = false →
      (p.toNat ∉ [2, 4, 6, 8] ∨ a.toNat = 0 ∨ 254 < a.toNat ∨ 5 < n.toNat ∨
          (∃ b ∈ bs, b = 0 ∨ 255 < b) ∨ ¬bs.Pairwise (· < ·)) →
      exec (.feedConfigure feed o p a n b1 b2 b3 b4 b5) s = .next (s.replies 0x01 ps .badParam [])) ∧
    (feedOf feed = some f → (s.csq.get f).state = .stopped → s.remoteMember f = false →
      p.toNat ∈ [2, 4, 6, 8] → 1 ≤ a.toNat → a.toNat ≤ 254 → n.toNat ≤ 5 →
      (∀ b ∈ bs, 1 ≤ b ∧ b ≤ 255) → bs.Pairwise (· < ·) →
      ∃ t, exec (.feedConfigure feed o p a n b1 b2 b3 b4 b5) s = .next t ∧
        t = { s with
          mtu := t.mtu
          csq := s.csq.set f { s.csq.get f with beaconLen := p.toNat, pendingState := .edit }
          stations := t.stations
          streams := t.streams
          mgp := s.mgp.complete 0x01 ps ⟨.ok, []⟩ } ∧
        (∃ zs, t.mtu = s.mtu.set f
          { s.mtu.get f with offset := o.toNat, boundaries := bs, zonesDue := zs } ∧
          (∀ z ∈ zs, s.now < z.time) ∧
          ((s.mtu.get f).originRec = none → zs = []) ∧
          ∀ r, (s.mtu.get f).originRec = some r →
            zs = (bs.zipIdx.map fun x => (⟨x.2 + 1, x.1, r.t0 + x.1 * r.estimate / 256⟩ : ZoneDue)).filter
              fun z => s.now < z.time) ∧
        (t.station (localStation f)).member = some ⟨f, BitVec.ofNat 8 a.toNat⟩ ∧
        ((s.csq.get f).pendingState = .edit → t.streams = s.streams ∧
          (t.station (localStation f)).refs = (s.station (localStation f)).refs ∧
          ∀ m, m ≠ localStation f → t.station m = s.station m) ∧
        ((s.csq.get f).pendingState ≠ .edit →
          (∀ i, (t.stream i).state = (s.stream i).state ∧
            (t.stream i).refs = (s.stream i).refs - (s.csq.get f).pendingBank.uses (.reserved i)) ∧
          ∀ m, (t.station m).refs = (s.station m).refs - (s.csq.get f).pendingBank.uses (.probe m) ∧
            (t.station m).generation = (s.station m).generation ∧
            (m ≠ localStation f → (t.station m).member = (s.station m).member)))

/-- R43, R59: SEQ_START in STOPPED with a passing current bank enters WAITING_SYNC and offers FEED_STATE; a failing
bank, another state or a bad feed is refused with nothing changed. SEQ_STOP takes the sequencer to STOPPED with
nothing in progress, withdraws the held claim and offers FEED_STATE, keeping beacon count and banks; in STOPPED it
has no effect. What the latch and the parameter list hold after completion is the model's choice
(notes/assumptions/6.md, unsafe). -/
def Obligations.PlaybackIsStartedAndStopped : Prop :=
  (∀ (feed : Word) (s : State) (f : Feed) (q : Csq), s.mgp.admits 0x03 [feed] = true →
    (feedOf feed = none → exec (.seqStart feed) s = .next (s.replies 0x03 [feed] .badParam [])) ∧
    (feedOf feed = some f → s.csq.get f = q →
      (q.state ≠ .stopped → exec (.seqStart feed) s = .next (s.replies 0x03 [feed] .wrongState [])) ∧
      (q.state = .stopped → s.checkBank f q.currentBank = .noSchedule →
        exec (.seqStart feed) s = .next (s.replies 0x03 [feed] .noSchedule [])) ∧
      (∀ i : SlotNo, q.state = .stopped → s.checkBank f q.currentBank = .badSchedule i →
        exec (.seqStart feed) s = .next (s.replies 0x03 [feed] .badSchedule [word i.val])) ∧
      (q.state = .stopped → s.checkBank f q.currentBank = .pass →
        exec (.seqStart feed) s =
          .next ((({ s with csq := s.csq.set f { q with state := .waitingSync } } : State).offerGeneral f
            (.feedState f (s.mtu.get f).state .waitingSync (s.mtu.get f).period)).replies 0x03 [feed]
              .ok [])))) ∧
  ∀ (feed : Word) (s : State) (f : Feed) (q : Csq), s.mgp.admits 0x04 [feed] = true →
    (feedOf feed = none → exec (.seqStop feed) s = .next (s.replies 0x04 [feed] .badParam [])) ∧
    (feedOf feed = some f → s.csq.get f = q →
      (q.state = .stopped → exec (.seqStop feed) s = .next (s.replies 0x04 [feed] .ok [])) ∧
      (q.state ≠ .stopped → ∃ t, exec (.seqStop feed) s = .next t ∧
        t = { s with
          csq := s.csq.set f
            { q with
              state := .stopped
              currentWindow := none
              armed := []
              halfIndex := 0
              heldClaim := none }
          pda := t.pda
          clc := t.clc
          mgp := s.mgp.complete 0x04 [feed] ⟨.ok, []⟩ } ∧
        (q.heldClaim.isSome → t.pda.claims.get f = none) ∧
        ∀ u, u = (if q.heldClaim = none then s else s.releaseDriver f) →
          t.pda = u.pda ∧
            t.clc = (u.offerGeneral f
              (.feedState f (s.mtu.get f).state .stopped (s.mtu.get f).period)).clc))

/-- R60, R20, R40, R183, R166: FEED_RESTART takes MTU f to ABSENT keeping P, offset and boundaries, stops the
sequencer with beacon count 0 and its claim withdrawn, returns a COUNTING bank to EDIT with its references handed
back, and at CLC f cuts the frame on the line, empties the slot and both queues, sets each mark that has lost
something, releases a fetch claim and abandons an open report; the link state and the other feeds' MTUs and
sequencers are kept, and no FEED_STATE is offered. What the latch and the parameter list hold after completion is
the model's choice (notes/assumptions/6.md, unsafe). That the line is free four ticks after the cut is DEDUCED
(notes/assumptions/12.md). That the invalid origin record keeps its P_o is the model's choice
(notes/assumptions/29.md). -/
def Obligations.FeedRestartRestartsTheFeed : Prop :=
  ∀ (feed : Word) (s : State) (f : Feed), s.mgp.admits 0x05 [feed] = true →
    (feedOf feed = none → exec (.feedRestart feed) s = .next (s.replies 0x05 [feed] .badParam [])) ∧
    (feedOf feed = some f → ∃ t, exec (.feedRestart feed) s = .next t ∧
      t.mtu = s.mtu.set f (s.mtu.get f).Absent ∧
      t.csq = s.csq.set f
        { s.csq.get f with
          state := .stopped
          currentWindow := none
          armed := []
          halfIndex := 0
          beaconCount := 0
          heldClaim := none
          pendingState := .edit } ∧
      t.mgp.events =
        (if (s.mtu.get f).state = .absent then s.mgp.events
         else offerEventTo s.mgp.events (.mainsState f .absent)) ∧
      t.mgp = { s.mgp with events := t.mgp.events }.complete 0x05 [feed] ⟨.ok, []⟩ ∧
      t.claims.get f = none ∧ (∀ g, g ≠ f → t.claims.get g = s.claims.get g) ∧
      (t.clc.get f).link = (s.clc.get f).link ∧ (t.clc.get f).receiver = (s.clc.get f).receiver ∧
      (t.clc.get f).slot = none ∧ (t.clc.get f).timing = [] ∧
      (s.claims.get f = none → (t.clc.get f).general = [] ∧ t.links = s.links ∧
        t.planner = s.planner) ∧
      (t.clc.get f).report = .idle ∧ t.notch = s.notch ∧ t.now = s.now ∧
      t.pda = (if (s.csq.get f).heldClaim = none then s.pda else (s.releaseDriver f).pda) ∧
      (∀ i, (t.stream i).state = (s.stream i).state ∧
        (t.stream i).refs = (s.stream i).refs -
          if (s.csq.get f).pendingState = .edit then 0 else (s.csq.get f).pendingBank.uses (.reserved i)) ∧
      (∀ m, t.station m = { s.station m with
        refs := (s.station m).refs -
          if (s.csq.get f).pendingState = .edit then 0 else (s.csq.get f).pendingBank.uses (.probe m) }) ∧
      (s.DriverSound → ∀ u, u = { s with clc := s.clc.set f ((s.clc.get f).emptied s.now) } →
        ((u.releaseClaim f).clc.get f).ReportDropped (t.clc.get f) ∧
          (∀ g, g ≠ f → t.clc.get g = (u.releaseClaim f).clc.get g) ∧
          t.links = (u.releaseClaim f).links ∧ t.planner = (u.releaseClaim f).planner))

/-- R28, R29: WINDOW_WRITE and WINDOW_COUNT change the pending bank in EDIT, and nothing else; a COUNTING bank is
refused WRONG_STATE, and bad parameters BAD_PARAM, with nothing changed. What the latch and the parameter list hold
after completion is the model's choice (notes/assumptions/6.md, unsafe). -/
def Obligations.WindowEditsReachThePendingBank : Prop :=
  ∀ (feed slot half phase kind target count : Word) (s : State) (ps : List Word) (f : Feed) (q : Csq),
    ps = [feed, slot, half, phase, kind, target] →
    (s.mgp.admits 0x10 ps = true →
      (feedOf feed = none ∨ 31 < slot.toNat ∨ 7 < half.toNat ∨ 255 < phase.toNat ∨
          kindOf kind target = none →
        exec (.windowWrite feed slot half phase kind target) s =
          .next (s.replies 0x10 ps .badParam [])) ∧
      (feedOf feed = some f → s.csq.get f = q →
        ∀ (i : SlotNo) (h : Fin 8) (p : Fin 256) (k : WindowKind), slot.toNat = i.val →
          half.toNat = h.val → phase.toNat = p.val → kindOf kind target = some k →
          (q.pendingState ≠ .edit →
            exec (.windowWrite feed slot half phase kind target) s =
              .next (s.replies 0x10 ps .wrongState [])) ∧
          (q.pendingState = .edit →
            exec (.windowWrite feed slot half phase kind target) s =
              .next (({ s with
                csq := s.csq.set f
                  (q.setBank q.pendingNo
                    { q.pendingBank with slots := q.pendingBank.slots.set i.val ⟨h, p, k⟩ i.isLt }) } :
                State).replies 0x10 ps .ok [])))) ∧
    (s.mgp.admits 0x11 [feed, count] = true →
      (feedOf feed = none ∨ 32 < count.toNat →
        exec (.windowCount feed count) s = .next (s.replies 0x11 [feed, count] .badParam [])) ∧
      (feedOf feed = some f → s.csq.get f = q →
        ∀ n : Fin 33, count.toNat = n.val →
          (q.pendingState ≠ .edit →
            exec (.windowCount feed count) s = .next (s.replies 0x11 [feed, count] .wrongState [])) ∧
          (q.pendingState = .edit →
            exec (.windowCount feed count) s =
              .next (({ s with
                csq := s.csq.set f (q.setBank q.pendingNo { q.pendingBank with count := n }) } :
                State).replies 0x11 [feed, count] .ok []))))

/-- R30, R23: WINDOW_READ returns the nine words of a slot of the current or the pending bank, the claim class
derived at the read, and changes nothing. What the latch and the parameter list hold after completion is the model's
choice (notes/assumptions/6.md, unsafe). -/
def Obligations.WindowReadReturnsNineWords : Prop :=
  ∀ (feed role slot : Word) (s : State) (f : Feed) (q : Csq) (i : SlotNo),
    s.mgp.admits 0x12 [feed, role, slot] = true →
    (feedOf feed = none ∨ 1 < role.toNat ∨ 31 < slot.toNat →
      exec (.windowRead feed role slot) s =
        .next (s.replies 0x12 [feed, role, slot] .badParam [])) ∧
    (feedOf feed = some f → s.csq.get f = q → slot.toNat = i.val → role.toNat = 0 →
      exec (.windowRead feed role slot) s =
        .next (s.replies 0x12 [feed, role, slot] .ok
          [word (bankCode q.current), 0, 0, word q.currentBank.count.val,
            word (q.currentBank.slot i).half.val, word (q.currentBank.slot i).phase.val,
            word (kindCode (kindName (q.currentBank.slot i).kind)),
            word (targetCode (q.currentBank.slot i).kind),
            word (classCode (s.claimClass f (q.currentBank.slot i)))])) ∧
    (feedOf feed = some f → s.csq.get f = q → slot.toNat = i.val → role.toNat = 1 →
      exec (.windowRead feed role slot) s =
        .next (s.replies 0x12 [feed, role, slot] .ok
          [word (bankCode q.pendingNo), word q.pendingState.roleCode, word q.pendingState.countdown,
            word q.pendingBank.count.val, word (q.pendingBank.slot i).half.val,
            word (q.pendingBank.slot i).phase.val,
            word (kindCode (kindName (q.pendingBank.slot i).kind)),
            word (targetCode (q.pendingBank.slot i).kind),
            word (classCode (s.claimClass f (q.pendingBank.slot i)))]))

/-- R23: the claim class of a window on a feed, by kind and the present state of the stream it names. R31: the
schedule check fails a bank of count 0 with NO_SCHEDULE, and otherwise with the first slot that is not in its place
or whose target is not fit for the feed; a bank with no such slot passes. -/
def Obligations.ClaimClassFollowsKindAndStream : Prop :=
  (∀ (s : State) (f : Feed) (h : Fin 8) (p : Fin 256) (n : StreamNo) (m : StationIx) (e : StreamEnds),
    s.claimClass f ⟨h, p, .beacon⟩ = some .beacon ∧
    s.claimClass f ⟨h, p, .probe m⟩ = some .hard ∧
    s.claimClass f ⟨h, p, .shared⟩ = some .soft ∧
    s.claimClass f ⟨h, p, .quiet⟩ = none ∧
    ((s.stream n).state = .free → s.claimClass f ⟨h, p, .reserved n⟩ = none) ∧
    ((s.stream n).state = .suspended e → s.claimClass f ⟨h, p, .reserved n⟩ = none) ∧
    ((s.stream n).state = .active e → e.transmitter = localStation f →
      s.claimClass f ⟨h, p, .reserved n⟩ = some .hard) ∧
    ((s.stream n).state = .active e → e.transmitter ≠ localStation f →
      s.claimClass f ⟨h, p, .reserved n⟩ = none)) ∧
  ∀ (s : State) (f : Feed) (b : Bank) (ok : SlotNo → Prop),
    (∀ i, ok i ↔
      (i.val = 0 → (b.slot i).kind = .beacon ∧ (b.slot i).half.val = 0 ∧ (b.slot i).phase.val = 0) ∧
      (∀ j : SlotNo, i.val = j.val + 1 → (b.slot i).half.val < (s.csq.get f).beaconLen ∧
        ((b.slot j).half.val < (b.slot i).half.val ∨
          (b.slot j).half = (b.slot i).half ∧ (b.slot j).phase.val < (b.slot i).phase.val)) ∧
      (∀ n, (b.slot i).kind = .reserved n → ∃ e, (s.stream n).state.ends = some e ∧
        (s.station e.transmitter).member.map (·.feed) = some f ∧
        (s.station e.receiver).member.map (·.feed) = some f) ∧
      (∀ n, (b.slot i).kind = .probe n → 3 ≤ n.val ∧ (s.station n).member.map (·.feed) = some f)) →
    (b.count.val = 0 → s.checkBank f b = .noSchedule) ∧
    (0 < b.count.val → (∀ i : SlotNo, i.val < b.count.val → ok i) → s.checkBank f b = .pass) ∧
    (∀ i : SlotNo, i.val < b.count.val → ¬ok i → (∀ j : SlotNo, j.val < i.val → ok j) →
      s.checkBank f b = .badSchedule i)

/-- R33 to R36, R38: SCHEDULE_ACTIVATE of a passing bank in EDIT exchanges the banks at once in STOPPED, counting
the new current bank and releasing the old, and otherwise sets it COUNTING with the clamped countdown and counts its
references; a failing or a COUNTING bank, and a bad feed, are refused. SCHEDULE_CANCEL returns a COUNTING bank to
EDIT and releases it; in EDIT it has no effect. A release lowers each count by the number of windows that name it.
What the latch and the parameter list hold after completion is the model's choice (notes/assumptions/6.md, unsafe). -/
def Obligations.ScheduleIsActivatedAndCancelled : Prop :=
  (∀ (feed count : Word) (s : State) (ps : List Word) (f : Feed) (q : Csq),
    ps = [feed, count] → s.mgp.admits 0x13 ps = true →
    (feedOf feed = none → exec (.scheduleActivate feed count) s = .next (s.replies 0x13 ps .badParam [])) ∧
    (feedOf feed = some f → s.csq.get f = q →
      (q.pendingState ≠ .edit →
        exec (.scheduleActivate feed count) s = .next (s.replies 0x13 ps .wrongState [])) ∧
      (q.pendingState = .edit → s.checkBank f q.pendingBank = .noSchedule →
        exec (.scheduleActivate feed count) s = .next (s.replies 0x13 ps .noSchedule [])) ∧
      (∀ i : SlotNo, q.pendingState = .edit → s.checkBank f q.pendingBank = .badSchedule i →
        exec (.scheduleActivate feed count) s = .next (s.replies 0x13 ps .badSchedule [word i.val])) ∧
      (q.pendingState = .edit → s.checkBank f q.pendingBank = .pass → q.state = .stopped →
        ∃ t, exec (.scheduleActivate feed count) s = .next t ∧
          t = { s with
            csq := s.csq.set f { q with current := q.pendingNo }
            stations := t.stations
            streams := t.streams
            mgp :=
              { s.mgp with
                events := offerEventTo s.mgp.events (.scheduleSwapped f q.beaconCount) }.complete 0x13 ps
                  ⟨.ok, [0]⟩ } ∧
          (∀ n, t.stream n = { s.stream n with
            refs := (s.stream n).refs + q.pendingBank.uses (.reserved n) - q.currentBank.uses (.reserved n) }) ∧
          ∀ n, t.station n = { s.station n with
            refs := (s.station n).refs + q.pendingBank.uses (.probe n) - q.currentBank.uses (.probe n) }) ∧
      (q.pendingState = .edit → s.checkBank f q.pendingBank = .pass → q.state ≠ .stopped →
        ∃ t, exec (.scheduleActivate feed count) s = .next t ∧
          t = { s with
            csq := s.csq.set f { q with pendingState := .counting (max 1 (min count.toNat 15)) }
            stations := t.stations
            streams := t.streams
            mgp := s.mgp.complete 0x13 ps ⟨.ok, [word (max 1 (min count.toNat 15))]⟩ } ∧
          (∀ n, t.stream n = { s.stream n with
            refs := (s.stream n).refs + q.pendingBank.uses (.reserved n) }) ∧
          ∀ n, t.station n = { s.station n with
            refs := (s.station n).refs + q.pendingBank.uses (.probe n) }))) ∧
  (∀ (feed : Word) (s : State) (f : Feed) (q : Csq), s.mgp.admits 0x14 [feed] = true →
    (feedOf feed = none → exec (.scheduleCancel feed) s = .next (s.replies 0x14 [feed] .badParam [])) ∧
    (feedOf feed = some f → s.csq.get f = q →
      (q.pendingState = .edit → exec (.scheduleCancel feed) s = .next (s.replies 0x14 [feed] .ok [])) ∧
      (q.pendingState ≠ .edit → ∃ t, exec (.scheduleCancel feed) s = .next t ∧
        t = { s with
          csq := s.csq.set f { q with pendingState := .edit }
          stations := (s.releaseBank q.pendingBank).stations
          streams := (s.releaseBank q.pendingBank).streams
          mgp := s.mgp.complete 0x14 [feed] ⟨.ok, []⟩ }))) ∧
  ∀ (s t : State) (b : Bank), t = s.releaseBank b →
    t = { s with stations := t.stations, streams := t.streams } ∧
    (∀ n, t.stream n = { s.stream n with refs := (s.stream n).refs - b.uses (.reserved n) }) ∧
    ∀ n, t.station n = { s.station n with refs := (s.station n).refs - b.uses (.probe n) }

/-! ### Chapter 5: stations and streams -/

/-- R82, R83, R80: STATION_ADD fills the lowest FREE remote entry with the next generation and gives it two LIVE
links at ROBUST with their defaults, cleared records and a version 0 set; a bad feed or address, an address in use
and a full table are refused, in that order, with nothing changed. What the latch and the parameter list hold after
completion is the model's choice (notes/assumptions/6.md, unsafe). -/
def Obligations.StationAddAdmitsAStation : Prop :=
  ∀ (feed address : Word) (s : State) (ps : List Word) (f : Feed),
    ps = [feed, address] → s.mgp.admits 0x20 ps = true →
    (feedOf feed = none ∨ address.toNat = 0 ∨ 254 < address.toNat →
      exec (.stationAdd feed address) s = .next (s.replies 0x20 ps .badParam [])) ∧
    (feedOf feed = some f → 1 ≤ address.toNat → address.toNat ≤ 254 →
      ((∃ n m, (s.station n).member = some m ∧ m.feed = f ∧ m.address.toNat = address.toNat) →
        exec (.stationAdd feed address) s = .next (s.replies 0x20 ps .inUse [])) ∧
      ((∀ n m, (s.station n).member = some m → m.feed = f → m.address.toNat ≠ address.toNat) →
        ((∀ n : StationIx, 3 ≤ n.val → (s.station n).member.isSome) →
          exec (.stationAdd feed address) s = .next (s.replies 0x20 ps .full [])) ∧
        (∀ n : StationIx, 3 ≤ n.val → (s.station n).member = none →
          (∀ m : StationIx, 3 ≤ m.val → m.val < n.val → (s.station m).member.isSome) →
          ∃ t k, exec (.stationAdd feed address) s = .next t ∧
            t = { s with
              stations := t.stations
              links := t.links
              mgp := s.mgp.complete 0x20 ps ⟨.ok, [word n.val]⟩ } ∧
            t.station n = ⟨some ⟨f, BitVec.ofNat 8 address.toNat⟩, (s.station n).generation + 1, 0⟩ ∧
            (∀ m, m ≠ n → t.station m = s.station m) ∧
            t.link (downlink n) = some k ∧ t.link (uplink n) = some k ∧
            (∀ l, linkStation l ≠ n → t.link l = s.link l) ∧
            k.record = ⟨f, (s.station n).generation + 1, .robust, 8, 4, 0, 0, 0, 0, 0, none⟩ ∧
            k.channel.length = s.zoneCount f ∧
            (∀ z ∈ k.channel, z.valid = false ∧ z.sincePlan = 0 ∧
              ∀ g : Fin 96, z.groups[g] = ⟨0, false⟩) ∧
            k.next = none ∧ k.active.version = 0 ∧ k.active.grade = .robust ∧
            k.active.zones.length = s.zoneCount f ∧
            ∀ z ∈ k.active.zones, z = robustMap (s.notch.get f))))

/-- R84, R85, R106, R165: STATION_REMOVE of a remote MEMBER entry with count 0 frees the entry and its two links,
takes them off the plan queue and their notices off the general queue, keeping the other entries in order, and keeps
the generation and the sets a fetch claim names; an open report for one of the links is abandoned, its buffer FREE,
the report state REMOVED and REPORT_ABANDONED offered. The other cases are refused in order with nothing changed.
What the latch and the parameter list hold after completion is the model's choice (notes/assumptions/6.md, unsafe). -/
def Obligations.StationRemoveTearsTheStationDown : Prop :=
  ∀ (station : Word) (s : State) (n : StationIx), s.mgp.admits 0x21 [station] = true →
    (station.toNat < 3 ∨ 63 < station.toNat →
      exec (.stationRemove station) s = .next (s.replies 0x21 [station] .badParam [])) ∧
    (3 ≤ n.val → station.toNat = n.val →
      ((s.station n).member = none →
        exec (.stationRemove station) s = .next (s.replies 0x21 [station] .noEntry [])) ∧
      ((s.station n).member.isSome → 0 < (s.station n).refs →
        exec (.stationRemove station) s = .next (s.replies 0x21 [station] .inUse [])) ∧
      (∀ m, (s.station n).member = some m → (s.station n).refs = 0 →
        ∃ t, exec (.stationRemove station) s = .next t ∧
          t = { s with
            stations := t.stations
            planner := t.planner
            links := t.links
            claims := t.claims
            clc := t.clc
            mgp := s.mgp.complete 0x21 [station] ⟨.ok, []⟩ } ∧
          t.station n = { s.station n with member := none } ∧
          (∀ i, i ≠ n → t.station i = s.station i) ∧
          t.link (downlink n) = none ∧ t.link (uplink n) = none ∧
          (∀ l, linkStation l ≠ n → t.link l = s.link l) ∧
          t.planner.urgent = s.planner.urgent.filter (fun e => linkStation e.link ≠ n) ∧
          t.planner.normal = s.planner.normal.filter (fun e => linkStation e.link ≠ n) ∧
          t.planner.engine = s.planner.engine ∧ t.planner.foldQueue = s.planner.foldQueue ∧
          (∀ x ∈ (t.clc.get m.feed).general, x.concerns n = false) ∧
          (∀ g, g ≠ m.feed → t.clc.get g = s.clc.get g) ∧
          (∀ g, t.claims.get g = (s.claims.get g).map fun c =>
            if linkStation c.link = n then
              match c.named, s.link c.link with
              | .active, some k => { c with named := .kept k.active }
              | .next, some ⟨_, _, _, some x⟩ => { c with named := .kept x.maps }
              | _, _ => c
            else c) ∧
          ∀ (c : Clc) (u : State),
            c = { s.clc.get m.feed with
              general := (s.clc.get m.feed).general.filter fun x => !x.concerns n } →
            u = { s with clc := s.clc.set m.feed c, links := t.links, claims := t.claims } →
            (∀ b gap r, c.report = .open_ b gap → c.buffer b = .filling r → linkStation r.link = n →
              t.clc = ((u.setClc m.feed { c.setBuffer b .free with report := .removed }).offerGeneral m.feed
                (.reportAbandoned r.link r.zone .linkRemoved (r.expected - r.firstBlock))).clc) ∧
            ((∀ b gap r, c.report = .open_ b gap → c.buffer b = .filling r → linkStation r.link ≠ n) →
              t.clc = u.clc))) ∧
    ∀ (x : GeneralNotice), x.concerns n = true ↔
      (∃ l v c k, x = .mapNext l v c k ∧ linkStation l = n) ∨
      (∃ l v g, x = .mapSwitched l v g ∧ linkStation l = n) ∨
      ∃ l o g w e z, x = .linkGrade l o g w e z ∧ linkStation l = n

/-- R90 to R92: STREAM_CREATE between two distinct MEMBER stations of one feed fills the lowest FREE record,
SUSPENDED when its link is UNREACHABLE and ACTIVE otherwise, and counts one reference to each station; STREAM_DELETE
of a stream with count 0 frees its record and hands both back. The other cases are refused in order with nothing
changed. What the latch and the parameter list hold after completion is the model's choice (notes/assumptions/6.md,
unsafe). -/
def Obligations.StreamsAreCreatedAndDeleted : Prop :=
  (∀ (tx rx : Word) (s : State) (ps : List Word), ps = [tx, rx] → s.mgp.admits 0x23 ps = true →
    (63 < tx.toNat ∨ 63 < rx.toNat →
      exec (.streamCreate tx rx) s = .next (s.replies 0x23 ps .badParam [])) ∧
    (∀ a b : StationIx, tx.toNat = a.val → rx.toNat = b.val →
      ((s.station a).member = none ∨ (s.station b).member = none ∨ a = b ∨
          (s.station a).member.map (·.feed) ≠ (s.station b).member.map (·.feed) →
        exec (.streamCreate tx rx) s = .next (s.replies 0x23 ps .badParam [])) ∧
      (s.canStream a b = true → (∀ n, (s.stream n).state ≠ .free) →
        exec (.streamCreate tx rx) s = .next (s.replies 0x23 ps .full [])) ∧
      (∀ n : StreamNo, s.canStream a b = true → (s.stream n).state = .free →
        (∀ m : StreamNo, m.val < n.val → (s.stream m).state ≠ .free) →
        ∃ t, exec (.streamCreate tx rx) s = .next t ∧
          t = { s with
            stations := t.stations
            streams := t.streams
            mgp := s.mgp.complete 0x23 ps ⟨.ok, [word n.val]⟩ } ∧
          t.stream n =
            ⟨if (StreamEnds.link ⟨a, b⟩).any s.unreachable then .suspended ⟨a, b⟩ else .active ⟨a, b⟩,
              0⟩ ∧
          (∀ m, m ≠ n → t.stream m = s.stream m) ∧
          (∀ i, t.station i =
            { s.station i with refs := (s.station i).refs + if i = a ∨ i = b then 1 else 0 })))) ∧
  ∀ (stream : Word) (s : State) (n : StreamNo), s.mgp.admits 0x24 [stream] = true →
    (31 < stream.toNat →
      exec (.streamDelete stream) s = .next (s.replies 0x24 [stream] .badParam [])) ∧
    (stream.toNat = n.val →
      ((s.stream n).state = .free →
        exec (.streamDelete stream) s = .next (s.replies 0x24 [stream] .noEntry [])) ∧
      (∀ e, (s.stream n).state.ends = some e → 0 < (s.stream n).refs →
        exec (.streamDelete stream) s = .next (s.replies 0x24 [stream] .inUse [])) ∧
      (∀ e, (s.stream n).state.ends = some e → (s.stream n).refs = 0 → e.transmitter ≠ e.receiver →
        ∃ t, exec (.streamDelete stream) s = .next t ∧
          t = { s with
            stations := t.stations
            streams := t.streams
            mgp := s.mgp.complete 0x24 [stream] ⟨.ok, []⟩ } ∧
          t.stream n = ⟨.free, 0⟩ ∧ (∀ m, m ≠ n → t.stream m = s.stream m) ∧
          (∀ i, t.station i =
            { s.station i with
              refs := (s.station i).refs - if i = e.transmitter ∨ i = e.receiver then 1 else 0 })))

/-- R87, R94: STATION_READ and STREAM_READ return their five words and change nothing; an index above the table is
refused. What the latch and the parameter list hold after completion is the model's choice (notes/assumptions/6.md,
unsafe). -/
def Obligations.StationAndStreamReadsReturnTheirWords : Prop :=
  ∀ (w : Word) (s : State) (n : StationIx) (i : StreamNo),
    (s.mgp.admits 0x22 [w] = true →
      (63 < w.toNat → exec (.stationRead w) s = .next (s.replies 0x22 [w] .badParam [])) ∧
      (∀ m, w.toNat = n.val → (s.station n).member = some m →
        exec (.stationRead w) s =
          .next (s.replies 0x22 [w] .ok
            [1, word (feedIndex m.feed), word m.address.toNat, word (s.station n).generation.toNat,
              word (s.station n).refs])) ∧
      (w.toNat = n.val → (s.station n).member = none →
        exec (.stationRead w) s =
          .next (s.replies 0x22 [w] .ok
            [0, 255, 0, word (s.station n).generation.toNat, word (s.station n).refs]))) ∧
    (s.mgp.admits 0x25 [w] = true →
      (31 < w.toNat → exec (.streamRead w) s = .next (s.replies 0x25 [w] .badParam [])) ∧
      (w.toNat = i.val → (s.stream i).state = .free →
        exec (.streamRead w) s =
          .next (s.replies 0x25 [w] .ok [0, 255, 255, 255, word (s.stream i).refs])) ∧
      (∀ e, w.toNat = i.val → (s.stream i).state.ends = some e →
        exec (.streamRead w) s =
          .next (s.replies 0x25 [w] .ok
            [if (s.stream i).state = .active e then 1 else 2, word e.transmitter.val,
              word e.receiver.val,
              match e.link with
              | some l => word l.val
              | none => 255,
              word (s.stream i).refs])))

/-- R88, R89, R175: a HEARD with the slot empty is answered from the MEMBER entries of its feed; an unknown address
is told to the management processor unless that event is queued already. -/
def Obligations.HeardIsAnsweredFromTheTable : Prop :=
  ∀ (f : Feed) (tag address : Byte) (s u : State), (s.clc.get f).slot = none → u = s.hearing f →
    (address = 0 ∨ address = 255 → ∃ t, exec (.heard f tag address) s = .next t ∧
      s.TookFrame t f tag (.refused .badParam) ∧ t = u.respond f tag (.refused .badParam)) ∧
    (∀ n, address ≠ 0 → address ≠ 255 → s.holderOf f address.toNat = some n → n.val < 3 →
      ∃ t, exec (.heard f tag address) s = .next t ∧
        s.TookFrame t f tag (.refused .badParam) ∧ t = u.respond f tag (.refused .badParam)) ∧
    (∀ n, address ≠ 0 → address ≠ 255 → s.holderOf f address.toNat = some n → 3 ≤ n.val →
      ∃ t, exec (.heard f tag address) s = .next t ∧
        s.TookFrame t f tag (.acceptedHeard (some n)) ∧
          t = u.respond f tag (.acceptedHeard (some n))) ∧
    (address ≠ 0 → address ≠ 255 → s.holderOf f address.toNat = none →
      ∃ t, exec (.heard f tag address) s = .next t ∧ s.TookFrame t f tag (.acceptedHeard none) ∧
        t = { u.respond f tag (.acceptedHeard none) with mgp := { s.mgp with events := t.mgp.events } } ∧
        t.mgp.events =
          (if .stationHeard f address ∈ s.eventsHeard f then s.eventsHeard f
           else offerEventTo (s.eventsHeard f) (.stationHeard f address)))

/-! ### Chapters 6 and 7: reports, folds and plans -/

/-- R99, R100: a MEASURE_OPEN with the slot empty and no report open is accepted into the lowest FREE buffer with the
link's generation and the gap deadline 25,000 ticks ahead; its refusals come in order, and change nothing but a
REMOVED report state. -/
def Obligations.MeasureOpenStartsAReport : Prop :=
  ∀ (f : Feed) (tag link zone first blocks : Byte) (s u v : State) (b : BufNo), (s.clc.get f).slot = none →
    u = s.hearing f → v = u.setClc f { u.clc.get f with report := .idle } →
    (∀ a gap, (s.clc.get f).report = .open_ a gap →
      ∃ t, exec (.measureOpen f tag link zone first blocks) s = .next t ∧
        s.TookFrame t f tag (.refused .wrongState) ∧ t = u.respond f tag (.refused .wrongState) ∧
        (t.clc.get f).report = .open_ a gap ∧
        ∀ a, (t.clc.get f).buffer a = (s.clc.get f).buffer a) ∧
    ((∀ a gap, (s.clc.get f).report ≠ .open_ a gap) →
      ((s.clc.get f).freeBuffer = none →
        ∃ t, exec (.measureOpen f tag link zone first blocks) s = .next t ∧
          s.TookFrame t f tag (.refused .busy) ∧ t = v.respond f tag (.refused .busy) ∧
          (t.clc.get f).report = .idle ∧
          ∀ a, (t.clc.get f).buffer a = (s.clc.get f).buffer a) ∧
      ((s.clc.get f).freeBuffer = some b → s.linkOn f link = none →
        ∃ t, exec (.measureOpen f tag link zone first blocks) s = .next t ∧
          s.TookFrame t f tag (.refused .noLink) ∧ t = v.respond f tag (.refused .noLink) ∧
          (t.clc.get f).report = .idle ∧
          ∀ a, (t.clc.get f).buffer a = (s.clc.get f).buffer a) ∧
      (∀ l k, (s.clc.get f).freeBuffer = some b → s.linkOn f link = some (l, k) →
        s.zoneCount f ≤ zone.toNat ∨ 11 < first.toNat ∨ blocks.toNat = 0 ∨ 12 < blocks.toNat ∨
            12 < first.toNat + blocks.toNat →
        ∃ t, exec (.measureOpen f tag link zone first blocks) s = .next t ∧
          s.TookFrame t f tag (.refused .badParam) ∧ t = v.respond f tag (.refused .badParam) ∧
          (t.clc.get f).report = .idle ∧
          ∀ a, (t.clc.get f).buffer a = (s.clc.get f).buffer a) ∧
      (∀ l k, (s.clc.get f).freeBuffer = some b → s.linkOn f link = some (l, k) →
        zone.toNat < s.zoneCount f → first.toNat ≤ 11 → 1 ≤ blocks.toNat →
        first.toNat + blocks.toNat ≤ 12 →
        ∃ t, exec (.measureOpen f tag link zone first blocks) s = .next t ∧
          s.TookFrame t f tag .accepted ∧
          t = (u.setClc f
            { (u.clc.get f).setBuffer b
                (.filling ⟨l, k.record.generation, zone.toNat, first.toNat, blocks.toNat, first.toNat, []⟩) with
              report := .open_ b (s.now + 25000) }).respond f tag .accepted ∧
          (t.clc.get f).report = .open_ b (s.now + 25000) ∧
          (t.clc.get f).buffer b =
            .filling ⟨l, k.record.generation, zone.toNat, first.toNat, blocks.toNat, first.toNat, []⟩ ∧
          ∀ a, a ≠ b → (t.clc.get f).buffer a = (s.clc.get f).buffer a))

/-- R101, R102, R103, R108: a MEASURE_BLOCK in sequence is appended and moves the gap deadline; the last one closes
the report, whose buffer is FULL and at the tail of the fold queue; one out of sequence abandons it, with
REPORT_ABANDONED, reason SEQUENCE and the blocks accepted so far, offered after the REFUSED response; with no report
open it is refused NO_LINK in REMOVED and WRONG_STATE in IDLE. The other buffer, and both where no report is open,
stand. -/
def Obligations.MeasureBlockExtendsTheReport : Prop :=
  ∀ (f : Feed) (tag sequence : Byte) (values : Vector Byte 8) (s u v : State), (s.clc.get f).slot = none →
    u = s.hearing f → v = u.setClc f { u.clc.get f with report := .idle } →
    (∀ b gap r, (s.clc.get f).report = .open_ b gap → (s.clc.get f).buffer b = .filling r →
      (sequence.toNat = r.expected → r.expected + 1 < r.firstBlock + r.blocks →
        ∃ t, exec (.measureBlock f tag sequence values) s = .next t ∧
          s.TookFrame t f tag .accepted ∧
          t = (u.setClc f
            { (u.clc.get f).setBuffer b
                (.filling { r with expected := r.expected + 1, values := r.values ++ values.toList }) with
              report := .open_ b (s.now + 25000) }).respond f tag .accepted ∧
          (t.clc.get f).report = .open_ b (s.now + 25000) ∧
          (t.clc.get f).buffer b =
            .filling { r with expected := r.expected + 1, values := r.values ++ values.toList } ∧
          ∀ a, a ≠ b → (t.clc.get f).buffer a = (s.clc.get f).buffer a) ∧
      (sequence.toNat = r.expected → r.firstBlock + r.blocks ≤ r.expected + 1 →
        ∃ t, exec (.measureBlock f tag sequence values) s = .next t ∧
          s.TookFrame t f tag (.reportClosed r.link r.zone) ∧
          t = { (u.setClc f
              { (u.clc.get f).setBuffer b
                  (.full { r with expected := r.expected + 1, values := r.values ++ values.toList }) with
                report := .idle }).respond f tag (.reportClosed r.link r.zone) with
            planner := { s.planner with foldQueue := s.planner.foldQueue ++ [⟨f, b⟩] } } ∧
          (t.clc.get f).report = .idle ∧
          (t.clc.get f).buffer b =
            .full { r with expected := r.expected + 1, values := r.values ++ values.toList } ∧
          ∀ a, a ≠ b → (t.clc.get f).buffer a = (s.clc.get f).buffer a) ∧
      (sequence.toNat ≠ r.expected →
        ∃ t, exec (.measureBlock f tag sequence values) s = .next t ∧
          s.TookFrame t f tag (.refused .badParam) ∧
          t = ((u.setClc f { (u.clc.get f).setBuffer b .free with report := .idle }).respond f tag
            (.refused .badParam)).offerGeneral f
              (.reportAbandoned r.link r.zone .sequence (r.expected - r.firstBlock)) ∧
          (t.clc.get f).report = .idle ∧ (t.clc.get f).buffer b = .free ∧
          ∀ a, a ≠ b → (t.clc.get f).buffer a = (s.clc.get f).buffer a)) ∧
    ((s.clc.get f).report = .removed →
      ∃ t, exec (.measureBlock f tag sequence values) s = .next t ∧
        s.TookFrame t f tag (.refused .noLink) ∧ t = v.respond f tag (.refused .noLink) ∧
        (t.clc.get f).report = .idle ∧ ∀ a, (t.clc.get f).buffer a = (s.clc.get f).buffer a) ∧
    ((s.clc.get f).report = .idle →
      ∃ t, exec (.measureBlock f tag sequence values) s = .next t ∧
        s.TookFrame t f tag (.refused .wrongState) ∧ t = u.respond f tag (.refused .wrongState) ∧
        (t.clc.get f).report = .idle ∧ ∀ a, (t.clc.get f).buffer a = (s.clc.get f).buffer a)

/-- R104, R105: MEASURE_ABORT is accepted, and it and the gap deadline end an open report: its buffer is FREE and
the report state IDLE; before the deadline, and with no report open, nothing expires. That an expiry sent before its
deadline, or with no report open, changes nothing is the model's choice (notes/assumptions/5.md). -/
def Obligations.AbortAndGapEndTheReport : Prop :=
  ∀ (f : Feed) (tag : Byte) (s : State) (c : Clc), s.clc.get f = c →
    (c.slot = none → ∃ t, exec (.measureAbort f tag) s = .next t ∧ s.TookFrame t f tag .accepted ∧
      (t.clc.get f).report = .idle ∧
      (∀ u, u = s.hearing f →
        (∀ b gap r, c.report = .open_ b gap → c.buffer b = .filling r →
          t = (u.setClc f { (u.clc.get f).setBuffer b .free with report := .idle }).respond f tag .accepted) ∧
        ((∀ b gap, c.report ≠ .open_ b gap) →
          t = (u.setClc f { u.clc.get f with report := .idle }).respond f tag .accepted)) ∧
      (∀ b gap r, c.report = .open_ b gap → c.buffer b = .filling r → (t.clc.get f).buffer b = .free) ∧
      ∀ b, (∀ r, c.buffer b ≠ .filling r) → (t.clc.get f).buffer b = c.buffer b) ∧
    (∀ b gap r, c.report = .open_ b gap → c.buffer b = .filling r → gap ≤ s.now →
      ∃ u, exec (.gapDeadlineExpiry f) s = .next u ∧
        u = (s.setClc f { c.setBuffer b .free with report := .idle }).offerGeneral f
          (.reportAbandoned r.link r.zone .timeout (r.expected - r.firstBlock))) ∧
    (∀ b gap, c.report = .open_ b gap → s.now < gap → exec (.gapDeadlineExpiry f) s = .next s) ∧
    ((∀ b gap, c.report ≠ .open_ b gap) → exec (.gapDeadlineExpiry f) s = .next s)

/-- R111, R112, R113, R117, R119: the idle engine takes the head of the fold queue, whose buffer becomes FOLDING; at
the completion the buffer is FREE and the engine IDLE, and the records are written only when the link is LIVE with
the report's generation: a group is set to four times its first value and then moves a quarter of the way towards
four times the next, rounded towards the old value; a group the report does not cover is kept. A zone that reaches
the plan threshold of a link that is not queued makes a normal offer. That a report for a zone its link does not
hold writes no record and makes no offer is the model's choice (notes/assumptions/30.md). -/
def Obligations.ReportsAreFoldedIntoTheRecords : Prop :=
  ((∀ (s : State) (r : BufRef) (rest : List BufRef) (x : Report),
    s.planner.engine = .idle → s.planner.foldQueue = r :: rest →
    (s.clc.get r.feed).buffer r.buf = .full x →
    exec .foldJobTake s =
      .next { s with
        clc := s.clc.set r.feed ((s.clc.get r.feed).setBuffer r.buf (.folding x))
        planner := { s.planner with engine := .folding r, foldQueue := rest } }) ∧
  ∀ (s : State) (r : BufRef) (x : Report),
    s.planner.engine = .folding r → (s.clc.get r.feed).buffer r.buf = .folding x →
    ((∀ k, s.link x.link = some k → k.record.generation ≠ x.generation) →
      exec .foldComplete s =
        .next { s with
          clc := s.clc.set r.feed ((s.clc.get r.feed).setBuffer r.buf .free)
          planner := { s.planner with engine := .idle } }) ∧
    (∀ k, s.link x.link = some k → k.record.generation = x.generation →
      ∃ t, exec .foldComplete s = .next t ∧
        t = { s with
          clc := s.clc.set r.feed ((s.clc.get r.feed).setBuffer r.buf .free)
          links := t.links
          planner := t.planner } ∧
        t.link x.link = some { k with channel := k.channel.modify x.zone (foldZone x) } ∧
        (∀ l, l ≠ x.link → t.link l = s.link l) ∧ t.planner.engine = .idle ∧
        (∀ z, k.channel[x.zone]? = some z → k.record.threshold ≤ min (z.sincePlan + 1) 15 →
          (∀ e ∈ s.planner.urgent ++ s.planner.normal, e.link ≠ x.link) →
          t.planner = { s.planner with
            engine := .idle
            normal := s.planner.normal ++ [⟨x.link, .plan⟩] }) ∧
        ((∀ z, k.channel[x.zone]? = some z → min (z.sincePlan + 1) 15 < k.record.threshold) ∨
            (∃ e ∈ s.planner.urgent ++ s.planner.normal, e.link = x.link) →
          t.planner = { s.planner with engine := .idle }))) ∧
  (∀ (g : GroupRecord) (x : Nat), g.seen = false → foldGroup g x = ⟨4 * x, true⟩) ∧
  (∀ (g : GroupRecord) (x d : Nat), g.seen = true → 4 * x = g.acc + d →
    foldGroup g x = ⟨g.acc + d / 4, true⟩) ∧
  (∀ (g : GroupRecord) (x d : Nat), g.seen = true → g.acc = 4 * x + d →
    foldGroup g x = ⟨g.acc - d / 4, true⟩) ∧
  ∀ (r : Report) (z : ZoneRecord) (g : Fin 96), (foldZone r z).valid = true ∧
    (foldZone r z).sincePlan = min (z.sincePlan + 1) 15 ∧
    (∀ v, r.values[g.val - 8 * r.firstBlock]? = some v → 8 * r.firstBlock ≤ g.val →
      (foldZone r z).groups[g] = foldGroup z.groups[g] v.toNat) ∧
    (g.val < 8 * r.firstBlock ∨ 8 * r.firstBlock + r.values.length ≤ g.val →
      (foldZone r z).groups[g] = z.groups[g])

/-- R117, R122, R123: with no fold waiting the idle engine takes the head of the urgent class, else of the normal
one; every zone's reports-since-plan becomes 0; a PLAN job at ROBUST or UNREACHABLE ends at its taking. Another job
is in hand with the maps of its link's records as they stand at the taking, which is DEDUCED
(notes/assumptions/16.md). With the engine at work, a fold waiting or no entry, nothing is taken. That a taking sent
then changes nothing is the model's choice (notes/assumptions/5.md). -/
def Obligations.PlanJobsAreTakenInOrder : Prop :=
  (∀ s : State, s.planner.engine ≠ .idle ∨ s.planner.foldQueue ≠ [] ∨
      s.planner.urgent = [] ∧ s.planner.normal = [] →
    exec .planJobTake s = .next s) ∧
  ∀ (s u : State) (e : PlanEntry) (rest : List PlanEntry) (k : Link) (p : Planner) (job : PlanJob),
    s.planner.engine = .idle → s.planner.foldQueue = [] → s.link e.link = some k →
    (s.planner.urgent = e :: rest ∧ p = { s.planner with urgent := rest } ∨
      s.planner.urgent = [] ∧ s.planner.normal = e :: rest ∧ p = { s.planner with normal := rest }) →
    u = { s with
      links := s.links.set e.link.val
        (some { k with channel := k.channel.map fun z => { z with sincePlan := 0 } }) e.link.isLt } →
    job = ⟨e.link, e.cause, k.record.generation, k.record.grade, k.record.margin,
      s.notch.get k.record.feed⟩ →
    (e.cause = .plan → k.record.grade = .robust ∨ k.record.grade = .unreachable →
      exec .planJobTake s = .next { u with planner := p }) ∧
    (e.cause ≠ .plan ∨ k.record.grade = .full ∨ k.record.grade = .guarded →
      exec .planJobTake s =
        .next { u with planner := { p with engine := .planning job (planZones job k.channel) } })

/-- R124, R125, R131, R157, R158, R162, R164 to R166: a computed plan waits while a fetch claim is on its link;
without one it completes: it is discarded when the link has gone or changed its generation or grade, or when a PLAN
set is not worth it, and is published with MAP_NEXT otherwise. A PLAN set is worth it when a load falls or the set
capacity rises by more than a sixteenth of the held set's. The release of a claim completes a job that waits for it;
that a job held back by the claim of another generation of its link number waits until no claim is left there is
DEDUCED (notes/assumptions/18.md). That a STEP_DOWN job is discarded by a step down taken before its publication
follows R125 against the words of R152 and is the model's choice (notes/assumptions/31.md). With no job in PLANNING
the end of a computation changes nothing, which is the model's choice (notes/assumptions/5.md). -/
def Obligations.ComputedPlanWaitsOrCompletes : Prop :=
  (∀ (s : State), (∀ job zones, s.planner.engine ≠ .planning job zones) →
    exec .planComputeEnd s = .next s) ∧
  (∀ (s : State) (job : PlanJob) (zones : List ZoneMap), s.planner.engine = .planning job zones →
    ((∃ f c, s.claims.get f = some c ∧ c.link = job.link) →
      exec .planComputeEnd s =
        .next { s with planner := { s.planner with engine := .waitingClaim job zones } }) ∧
    ((∀ f c, s.claims.get f = some c → c.link ≠ job.link) →
      exec .planComputeEnd s = .next (s.completePlan job zones))) ∧
  (∀ (s : State) (job : PlanJob) (zones : List ZoneMap),
    ((∀ k, s.link job.link = some k →
        k.record.generation ≠ job.generation ∨ k.record.grade ≠ job.grade ∨
          job.cause = .plan ∧ worthPublishing zones k.held = false) →
      s.completePlan job zones = { s with planner := { s.planner with engine := .idle } }) ∧
    (∀ k n, s.link job.link = some k → k.record.generation = job.generation →
      k.record.grade = job.grade → (job.cause = .plan → worthPublishing zones k.held = true) →
      n.maps.zones = zones → n.maps.grade = job.grade →
      (k.next = none → n.maps.version = k.active.version + 1 ∧
        n.countdown = if job.cause = .stepDown then 1 else 2) →
      (∀ o, k.next = some o → n.maps.version = o.maps.version ∧
        n.countdown = min o.countdown (if job.cause = .stepDown then 1 else 2)) →
      s.completePlan job zones =
        ({ s with
          planner := { s.planner with engine := .idle }
          links := s.links.set job.link.val
            (some { k with next := some n, record := { k.record with pendingCause := some job.cause } })
            job.link.isLt } : State).offerGeneral k.record.feed
          (.mapNext job.link n.maps.version n.countdown job.cause))) ∧
  (∀ (k : Link), (∀ n, k.next = some n → k.held = n.maps.zones) ∧
    (k.next = none → k.held = k.active.zones)) ∧
  (∀ (new held : List ZoneMap) (capacity : List ZoneMap → Int),
    (∀ zs, capacity zs = (zs.map fun z => z.rawCapacity / z.repetition).sum) →
    (worthPublishing new held = true ↔
      (∃ (i : Nat) (z h : ZoneMap), new[i]? = some z ∧ held[i]? = some h ∧
        (z.form = .adaptive ∧ h.form = .adaptive ∧ (∃ g : Fin 96, z.codes[g].val < h.codes[g].val) ∨
          z.rawCapacity / z.repetition < h.rawCapacity / h.repetition)) ∨
      capacity held < 16 * (capacity new - capacity held))) ∧
  ∀ (s : State) (f : Feed),
    (s.claims.get f = none → s.releaseClaim f = s) ∧
    ∀ (c : FetchClaim) (u : State), s.claims.get f = some c →
      u = { s with claims := s.claims.set f none } →
      ((∀ job zones, s.planner.engine ≠ .waitingClaim job zones) → s.releaseClaim f = u) ∧
      ∀ job zones, s.planner.engine = .waitingClaim job zones →
        (job.link ≠ c.link → s.releaseClaim f = u) ∧
        (job.link = c.link →
          c.generation = job.generation ∨ (∀ g d, u.claims.get g = some d → d.link ≠ job.link) →
          s.releaseClaim f = u.completePlan job zones) ∧
        (job.link = c.link → c.generation ≠ job.generation →
          (∃ g d, u.claims.get g = some d ∧ d.link = job.link) → s.releaseClaim f = u)

/-- R126 to R130, R133: the map a plan computes for a zone, group by group and zone by zone: the load codes of the
open groups by their accumulators less the effective margin, 0 on the notched groups; ADAPTIVE when a group is open,
the zone is valid and its capacity is not below the ROBUST floor, and ROBUST otherwise. The job that a taking leaves
in hand carries these maps (notes/assumptions/16.md). -/
def Obligations.PlansLoadGroupsByTheTable : Prop :=
  (∀ (e : Int), (loadCode e).val =
    (if e < 16 then 0 else if e < 28 then 1 else if e < 44 then 2 else if e < 56 then 3
     else if e < 80 then 4 else if e < 104 then 5 else if e < 128 then 6 else 7)) ∧
  (∀ (job : PlanJob) (channel : List ZoneRecord), (planZones job channel).length = channel.length ∧
    (∀ z ∈ planZones job channel, ∀ g : Fin 96, job.notch.getLsbD g.val = true →
      z.codes[g].val = 0) ∧
    (∀ z ∈ planZones job channel, z.rawCapacity = rawCapacity z.codes ∧ z.rawCapacity ≤ 7680) ∧
    (job.grade = .robust ∨ job.grade = .unreachable →
      ∀ z ∈ planZones job channel, z = robustMap job.notch) ∧
    (∀ i (h : i < channel.length), (job.grade = .full ∨ job.grade = .guarded) →
      (planZones job channel)[i]? =
        some (planZone job.notch
          (if job.grade = .guarded then job.margin + 12 else job.margin) channel[i])) ∧
    ∀ z ∈ planZones job channel, 4 * openGroups job.notch ≤ z.effective) ∧
  (∀ (m : NotchMask) (margin n : Nat) (z : ZoneRecord) (codes : Vector (Fin 8) 96),
    n = ((List.range 96).filter fun g => !m.getLsbD g).length →
    (∀ g : Fin 96, codes[g] =
      if m.getLsbD g.val then 0 else loadCode (((z.groups[g].acc / 4 : Nat) : Int) - (margin : Int))) →
    (n ≠ 0 → z.valid = true → 4 * n ≤ rawCapacity codes →
      planZone m margin z = ⟨.adaptive, 1, rawCapacity codes, codes⟩) ∧
    (n = 0 ∨ z.valid = false ∨ rawCapacity codes < 4 * n → planZone m margin z = robustMap m) ∧
    robustMap m = ⟨.robust, 4, 16 * n, Vector.ofFn fun g => if m.getLsbD g.val then 0 else 2⟩ ∧
    openGroups m = n) ∧
  (∀ codes : Vector (Fin 8) 96, rawCapacity codes =
    ((List.finRange 96).map fun g => 8 * [0, 1, 2, 3, 4, 6, 8, 10].getD codes[g].val 0).sum) ∧
  ∀ (s t : State) (job : PlanJob) (zones : List ZoneMap) (k : Link),
    exec .planJobTake s = .next t → s.planner.engine = .idle → t.planner.engine = .planning job zones →
    s.link job.link = some k →
    zones.length = k.channel.length ∧
    ∀ (i : Nat) z, k.channel[i]? = some z →
      (job.grade = .full ∨ job.grade = .guarded →
        zones[i]? = some (planZone job.notch
          (if job.grade = .guarded then job.margin + 12 else job.margin) z)) ∧
      (job.grade = .robust ∨ job.grade = .unreachable → zones[i]? = some (robustMap job.notch))

/-- R133, R134, R119, R120, R135: NOTCH_SET replaces the mask of its feed, bit j of word i being group 16(i-1)+j,
queues every LIVE link of the feed in the urgent class, in increasing order behind the entries there unless it is
urgent already, takes those it queues out of the normal class, and returns the number of LIVE links. PLAN_NOW queues
a LIVE link that is not queued in the normal class and returns 0; for a queued link it changes nothing and returns
1. Bad operands are refused. What the latch and the parameter list hold after completion is the model's choice
(notes/assumptions/6.md, unsafe). -/
def Obligations.PlansAreOfferedByNotchAndCommand : Prop :=
  (∀ (feed w1 w2 w3 w4 w5 w6 : Word) (s : State) (ps : List Word) (f : Feed),
    ps = [feed, w1, w2, w3, w4, w5, w6] → s.mgp.admits 0x02 ps = true →
    (feedOf feed = none →
      exec (.notchSet feed w1 w2 w3 w4 w5 w6) s = .next (s.replies 0x02 ps .badParam [])) ∧
    (feedOf feed = some f →
      ∃ t m, exec (.notchSet feed w1 w2 w3 w4 w5 w6) s = .next t ∧
        t = { s with
          notch := s.notch.set f m
          planner := t.planner
          mgp := s.mgp.complete 0x02 ps ⟨.ok, [word (s.liveLinks f).length]⟩ } ∧
        (∀ j < 16, m.getLsbD j = w1.getLsbD j ∧ m.getLsbD (16 + j) = w2.getLsbD j ∧
          m.getLsbD (32 + j) = w3.getLsbD j ∧ m.getLsbD (48 + j) = w4.getLsbD j ∧
          m.getLsbD (64 + j) = w5.getLsbD j ∧ m.getLsbD (80 + j) = w6.getLsbD j) ∧
        t.planner.engine = s.planner.engine ∧ t.planner.foldQueue = s.planner.foldQueue ∧
        (∀ l, s.liveOn f l = true → ∃ e ∈ t.planner.urgent, e.link = l) ∧
        (∀ e ∈ s.planner.urgent, e ∈ t.planner.urgent) ∧
        ∀ queued : LinkNo → Prop, (∀ l, queued l ↔ ∃ e ∈ s.planner.urgent, e.link = l) →
          ∃ ls : List LinkNo, (∀ l, l ∈ ls ↔ (∃ k, s.link l = some k ∧ k.record.feed = f) ∧ ¬queued l) ∧
            ls.Pairwise (fun a b => a.val < b.val) ∧
            t.planner.urgent = s.planner.urgent ++ ls.map (fun l => ⟨l, .notch⟩) ∧
            t.planner.normal = s.planner.normal.filter (fun e => !ls.contains e.link))) ∧
  ∀ (link : Word) (s : State) (l : LinkNo), s.mgp.admits 0x33 [link] = true →
    (127 < link.toNat → exec (.planNow link) s = .next (s.replies 0x33 [link] .badParam [])) ∧
    (link.toNat = l.val → s.link l = none →
      exec (.planNow link) s = .next (s.replies 0x33 [link] .noLink [])) ∧
    (∀ k, link.toNat = l.val → s.link l = some k →
      ((∀ e ∈ s.planner.urgent ++ s.planner.normal, e.link ≠ l) →
        exec (.planNow link) s =
          .next (({ s with
            planner := { s.planner with normal := s.planner.normal ++ [⟨l, .plan⟩] } } :
            State).replies 0x33 [link] .ok [0])) ∧
      ((∃ e ∈ s.planner.urgent ++ s.planner.normal, e.link = l) →
        exec (.planNow link) s = .next (s.replies 0x33 [link] .ok [1])))

/-! ### Chapters 6 to 9: a link's parameters, reads, fetches and grades -/

/-- R153: LINK_SET clamps the margin to 63 and the plan threshold to 1..15, writes them, and changes nothing else; a
bad number and a FREE link are refused. What the latch and the parameter list hold after completion is the model's
choice (notes/assumptions/6.md, unsafe). -/
def Obligations.LinkSetClampsAndWrites : Prop :=
  ∀ (link margin threshold : Word) (s : State) (ps : List Word) (l : LinkNo),
    ps = [link, margin, threshold] → s.mgp.admits 0x30 ps = true →
    (127 < link.toNat →
      exec (.linkSet link margin threshold) s = .next (s.replies 0x30 ps .badParam [])) ∧
    (link.toNat = l.val → s.link l = none →
      exec (.linkSet link margin threshold) s = .next (s.replies 0x30 ps .noLink [])) ∧
    (∀ k m t, link.toNat = l.val → s.link l = some k →
      m = (if 63 < margin.toNat then 63 else margin.toNat) →
      t = (if threshold.toNat = 0 then 1 else if 15 < threshold.toNat then 15 else threshold.toNat) →
      exec (.linkSet link margin threshold) s =
        .next (({ s with
          links :=
            s.links.set l.val (some { k with record := { k.record with margin := m, threshold := t } })
              l.isLt } : State).replies 0x30 ps .ok [word m, word t]))

/-- R154, R168, R114: LINK_READ, MAP_READ and CHANNEL_READ return the words of a LIVE link's record, of a zone of
its ACTIVE or NEXT set, and of a block of a zone's channel records, and change nothing; their refusals come in
order. What the latch and the parameter list hold after completion is the model's choice (notes/assumptions/6.md,
unsafe). -/
def Obligations.LinkReadsReturnTheirWords : Prop :=
  ∀ (link role zone block : Word) (s : State) (l : LinkNo) (ms cs : List Word),
    ms = [link, role, zone] → cs = [link, zone, block] →
    (s.mgp.admits 0x31 [link] = true →
      (127 < link.toNat → exec (.linkRead link) s = .next (s.replies 0x31 [link] .badParam [])) ∧
      (link.toNat = l.val → s.link l = none →
        exec (.linkRead link) s = .next (s.replies 0x31 [link] .noLink [])) ∧
      (∀ k r m, link.toNat = l.val → s.link l = some k → k.record = r → s.notch.get r.feed = m →
        exec (.linkRead link) s =
          .next (s.replies 0x31 [link] .ok
            [word (feedIndex r.feed), word r.generation.toNat, word (gradeCode r.grade), word r.margin,
              word r.threshold, word r.ok, word r.failed, word r.goodRun, word r.badRun,
              word r.periods, word (causeCode r.pendingCause), m.extractLsb' 0 16,
              m.extractLsb' 16 16, m.extractLsb' 32 16, m.extractLsb' 48 16, m.extractLsb' 64 16,
              m.extractLsb' 80 16]))) ∧
    (s.mgp.admits 0x32 ms = true →
      (127 < link.toNat ∨ 1 < role.toNat ∨ 5 < zone.toNat →
        exec (.mapRead link role zone) s = .next (s.replies 0x32 ms .badParam [])) ∧
      (link.toNat = l.val → role.toNat ≤ 1 → zone.toNat ≤ 5 →
        (s.link l = none → exec (.mapRead link role zone) s = .next (s.replies 0x32 ms .noLink [])) ∧
        (∀ k, s.link l = some k →
          (s.zoneCount k.record.feed ≤ zone.toNat →
            exec (.mapRead link role zone) s = .next (s.replies 0x32 ms .badParam [])) ∧
          (zone.toNat < s.zoneCount k.record.feed →
            (role.toNat = 1 → k.next = none →
              exec (.mapRead link role zone) s = .next (s.replies 0x32 ms .noEntry [])) ∧
            (∀ (m : MapSet) (z : ZoneMap) (countdown cause : Nat), m.zones[zone.toNat]? = some z →
              (role.toNat = 0 ∧ m = k.active ∧ countdown = 0 ∧ cause = 0 ∨
                role.toNat = 1 ∧ k.next = some ⟨m, countdown⟩ ∧
                  cause = causeCode k.record.pendingCause) →
              exec (.mapRead link role zone) s =
                .next (s.replies 0x32 ms .ok
                  ([word m.version.toNat, word (gradeCode m.grade), word countdown, word cause,
                    word (formCode z.form), word z.repetition, word z.rawCapacity,
                    word (z.rawCapacity / z.repetition)] ++
                    (List.range 24).map fun j =>
                      word ((z.codes.toList.getD (4 * j) 0).val +
                        16 * (z.codes.toList.getD (4 * j + 1) 0).val +
                        256 * (z.codes.toList.getD (4 * j + 2) 0).val +
                        4096 * (z.codes.toList.getD (4 * j + 3) 0).val)))))))) ∧
    (s.mgp.admits 0x34 cs = true →
      (127 < link.toNat ∨ 5 < zone.toNat ∨ 11 < block.toNat →
        exec (.channelRead link zone block) s = .next (s.replies 0x34 cs .badParam [])) ∧
      (link.toNat = l.val → zone.toNat ≤ 5 → block.toNat ≤ 11 →
        (s.link l = none → exec (.channelRead link zone block) s = .next (s.replies 0x34 cs .noLink [])) ∧
        (∀ k, s.link l = some k →
          (s.zoneCount k.record.feed ≤ zone.toNat →
            exec (.channelRead link zone block) s = .next (s.replies 0x34 cs .badParam [])) ∧
          (∀ z, zone.toNat < s.zoneCount k.record.feed → k.channel[zone.toNat]? = some z →
            exec (.channelRead link zone block) s =
              .next (s.replies 0x34 cs .ok
                ([if z.valid then 1 else 0, word z.sincePlan] ++
                  (List.range 8).map fun i =>
                    match z.groups.toList.getD (8 * block.toNat + i) ⟨0, false⟩ with
                    | ⟨acc, true⟩ => word acc
                    | ⟨_, false⟩ => 65535))))))

/-- R61, R17, R14, R15, R177: POSITION_READ returns, and a POSITION_QUERY is answered with, the position of the feed
as it stands, and both change nothing else. The second word is P where P fits in a word (notes/assumptions/4.md).
What the latch and the parameter list hold after completion is the model's choice (notes/assumptions/6.md,
unsafe). -/
def Obligations.PositionIsThatOfTheMoment : Prop :=
  ∀ (feed : Word) (f : Feed) (tag : Byte) (s : State) (p : Position),
    p = ⟨(s.mtu.get f).state, (s.mtu.get f).period, (s.csq.get f).state, (s.csq.get f).beaconCount,
      if (s.csq.get f).state = .running then (s.csq.get f).halfIndex else 0, p.phase, p.zone,
      if (s.csq.get f).state = .running then (s.csq.get f).currentWindow else none⟩ →
    ((s.mtu.get f).originRec = none → p.phase = 0 ∧ p.zone = 0) →
    (∀ o, (s.mtu.get f).originRec = some o → p.phase ≤ 255 ∧
      (p.phase = 0 ∨ p.phase * o.estimate / 256 ≤ s.now - o.t0) ∧
      (∀ u, p.phase < u → u ≤ 255 → s.now - o.t0 < u * o.estimate / 256) ∧
      p.zone = ((s.mtu.get f).boundaries.filter fun b => b ≤ p.phase).length) →
    (s.mgp.admits 0x40 [feed] = true → feedOf feed = none →
      exec (.positionRead feed) s = .next (s.replies 0x40 [feed] .badParam [])) ∧
    (s.mgp.admits 0x40 [feed] = true → feedOf feed = some f →
      ∃ w : Word, (p.period < 65536 → w.toNat = p.period) ∧
        exec (.positionRead feed) s =
          .next (s.replies 0x40 [feed] .ok
            [word (mainsCode p.mains), w, word (seqCode p.seq), p.beaconCount, word p.halfIndex,
              word p.phase, word p.zone,
              match p.window with
              | some i => word i.val
              | none => 255])) ∧
    ((s.clc.get f).slot = none → ∃ t, exec (.positionQuery f tag) s = .next t ∧
      s.TookFrame t f tag (.position p) ∧ t = (s.hearing f).respond f tag (.position p))

/-- R163 to R165, R167, R159, R160, R162: a MAP_FETCH of a LIVE link of the feed, of the version of its ACTIVE or
NEXT set and of a zone of the feed places a claim on that set and a MAP_DATA response; the refusals come in order,
place no claim and change nothing. MAP_DATA carries the 56 bytes of R167: link, version, planned grade, zone, form,
repetition and raw capacity of the claimed set as it stands, and the load codes two to a byte. At a beacon boundary
a link with a NEXT set counts it down, and at the end of the countdown NEXT becomes ACTIVE with MAP_SWITCHED, a
claim keeping the set it names. -/
def Obligations.MapFetchClaimsASet : Prop :=
  (∀ (f : Feed) (tag link version zone : Byte) (s u : State), (s.clc.get f).slot = none → u = s.hearing f →
    (s.linkOn f link = none → ∃ t, exec (.mapFetch f tag link version zone) s = .next t ∧
      s.TookFrame t f tag (.refused .noLink) ∧ t = u.respond f tag (.refused .noLink)) ∧
    (∀ l k, s.linkOn f link = some (l, k) →
      (version.toNat ≠ k.active.version.toNat →
        (∀ n, k.next = some n → version.toNat ≠ n.maps.version.toNat) →
        ∃ t, exec (.mapFetch f tag link version zone) s = .next t ∧
          s.TookFrame t f tag (.refusedStale k.active.version (k.next.map (·.maps.version))) ∧
          t = u.respond f tag (.refusedStale k.active.version (k.next.map (·.maps.version)))) ∧
      (∀ named, version.toNat = k.active.version.toNat ∧ named = .active ∨
          version.toNat ≠ k.active.version.toNat ∧ named = .next ∧
            (∃ n, k.next = some n ∧ version.toNat = n.maps.version.toNat) →
        (s.zoneCount f ≤ zone.toNat → ∃ t, exec (.mapFetch f tag link version zone) s = .next t ∧
          s.TookFrame t f tag (.refused .badParam) ∧ t = u.respond f tag (.refused .badParam)) ∧
        (zone.toNat < s.zoneCount f → ∃ t, exec (.mapFetch f tag link version zone) s = .next t ∧
          s.TookFrame t f tag .mapData ∧
          t = ({ u with
            claims := s.claims.set f (some ⟨l, k.record.generation, zone.toNat, named⟩) } : State).respond f tag
              .mapData)))) ∧
  (∀ (s : State) (f : Feed) (c : FetchClaim) (m : MapSet) (z : ZoneMap), s.claims.get f = some c →
    (c.named = .kept m ∨ (∃ k, s.link c.link = some k ∧
      (c.named = .active ∧ m = k.active ∨ ∃ n, c.named = .next ∧ k.next = some n ∧ m = n.maps))) →
    m.zones[c.zone]? = some z →
    (s.mapData f).length = 56 ∧
      (s.mapData f).take 8 =
        [BitVec.ofNat 8 c.link.val, m.version.setWidth 8, BitVec.ofNat 8 (gradeCode m.grade), BitVec.ofNat 8 c.zone,
          if z.form = .adaptive then 0 else 1, BitVec.ofNat 8 z.repetition,
          BitVec.ofNat 8 (z.rawCapacity / 256), BitVec.ofNat 8 z.rawCapacity] ∧
      ∀ (i : Fin 48) (lo hi : Fin 96), lo.val = 2 * i.val → hi.val = 2 * i.val + 1 →
        ∃ x : Byte, (s.mapData f)[8 + i.val]? = some x ∧
          x.extractLsb' 0 4 = BitVec.ofNat 4 z.codes[lo].val ∧
          x.extractLsb' 4 4 = BitVec.ofNat 4 z.codes[hi].val) ∧
  ∀ (s : State) (l : LinkNo),
    (s.link l = none → s.countLink l = s) ∧
    ∀ k, s.link l = some k →
      (k.next = none → s.countLink l = s) ∧
      ∀ n, k.next = some n →
        (1 < n.countdown → s.countLink l =
          { s with
            links := s.links.set l.val
              (some { k with next := some { n with countdown := n.countdown - 1 } }) l.isLt }) ∧
        (n.countdown ≤ 1 → ∀ claims : PerFeed (Option FetchClaim),
          (∀ f, claims.get f = (s.claims.get f).map fun c =>
            if c.link = l then
              match c.named with
              | .active => { c with named := .kept k.active }
              | .next => { c with named := .active }
              | .kept _ => c
            else c) →
          s.countLink l =
            ({ s with
              links := s.links.set l.val
                (some { k with
                  active := n.maps
                  next := none
                  record := { k.record with pendingCause := none } }) l.isLt
              claims := claims } : State).offerGeneral k.record.feed
              (.mapSwitched l n.maps.version n.maps.grade))

/-- R141, R142, R149, R150: a DELIVERY_REPORT of a LIVE link of the feed is tallied, but at UNREACHABLE only with
the PROBE flag, and the link is evaluated, with trigger REPORT and the zone, when the total reaches the span; the
evaluation is made before the response is placed, which carries the grade that results; a grade change is queued
urgently and told by an event. Refusals change no record. -/
def Obligations.DeliveryReportIsTalliedAndEvaluated : Prop :=
  ∀ (f : Feed) (tag link zone : Byte) (ok failed : Word) (flags : Byte) (s : State),
    (s.clc.get f).slot = none →
    (s.linkOn f link = none → ∃ t, exec (.deliveryReport f tag link zone ok failed flags) s = .next t ∧
      s.TookFrame t f tag (.refused .noLink) ∧ t = (s.hearing f).respond f tag (.refused .noLink)) ∧
    (∀ l k, s.linkOn f link = some (l, k) →
      (s.zoneCount f ≤ zone.toNat ∨ 1023 < ok.toNat ∨ 1023 < failed.toNat →
        ∃ t, exec (.deliveryReport f tag link zone ok failed flags) s = .next t ∧
          s.TookFrame t f tag (.refused .badParam) ∧ t = (s.hearing f).respond f tag (.refused .badParam)) ∧
      (zone.toNat < s.zoneCount f → ok.toNat ≤ 1023 → failed.toNat ≤ 1023 →
        (k.record.grade = .unreachable → flags.getLsbD 0 = false →
          ∃ t, exec (.deliveryReport f tag link zone ok failed flags) s = .next t ∧
            s.TookFrame t f tag (.acceptedDelivery .unreachable false) ∧
              t = (s.hearing f).respond f tag (.acceptedDelivery .unreachable false)) ∧
        (∀ r, k.record.grade ≠ .unreachable ∨ flags.getLsbD 0 = true →
          r = { k.record with
            ok := min (k.record.ok + ok.toNat) 65535
            failed := min (k.record.failed + failed.toNat) 65535 } →
          ∃ t, exec (.deliveryReport f tag link zone ok failed flags) s = .next t ∧
            (∀ m, m ≠ l → t.link m = s.link m) ∧ t.mtu = s.mtu ∧ t.csq = s.csq ∧ t.pda = s.pda ∧
            t.stations = s.stations ∧ t.claims = s.claims ∧
            (r.ok + r.failed < (if r.grade = .unreachable then 32 else 256) →
              s.TookFrame t f tag (.acceptedDelivery r.grade true) ∧
                t.link l = some { k with record := r } ∧ t.streams = s.streams ∧
                t.planner = s.planner ∧ t.mgp.events = s.eventsHeard f ∧
                t = ({ s.hearing f with
                  links := s.links.set l.val (some { k with record := r }) l.isLt } : State).respond f tag
                    (.acceptedDelivery r.grade true)) ∧
            ((if r.grade = .unreachable then 32 else 256) ≤ r.ok + r.failed →
              s.TookFrame t f tag (.acceptedDelivery r.evaluated.grade true) ∧
                t.link l = some { k with record := r.evaluated } ∧
                (r.evaluated.grade = r.grade →
                  t.planner = s.planner ∧ t.mgp.events = s.eventsHeard f) ∧
                (r.evaluated.grade ≠ r.grade →
                  (∃ e ∈ t.planner.urgent, e.link = l ∧ e.cause =
                    if gradeCode r.grade < gradeCode r.evaluated.grade then .stepDown else .stepUp) ∧
                  t.mgp.events =
                    offerEventTo (s.eventsHeard f) (.linkGrade l r.grade r.evaluated.grade)) ∧
                t = ((s.hearing f).evaluate l { k with record := r } .report (some zone.toNat)).respond f tag
                    (.acceptedDelivery r.evaluated.grade true)))))

/-- R143 to R151, R93, R120: what an evaluation makes of a link's grade and runs, by the tally at it, and what a
grade change hands on: the streams of the link when it enters or leaves UNREACHABLE, the urgent offer, the
LINK_GRADE notice and the LINK_GRADE event. At a beacon boundary a link counts the period, and is evaluated with
trigger IDLE at 16 periods and a total of 32. -/
def Obligations.EvaluationFollowsTheLadder : Prop :=
  (∀ (r : LinkRecord) (total : Nat), total = r.ok + r.failed →
    (r.evaluated = { r with
      grade := r.evaluated.grade
      goodRun := r.evaluated.goodRun
      badRun := r.evaluated.badRun
      ok := 0
      failed := 0
      periods := 0 }) ∧
    (r.grade = .full ∨ r.grade = .guarded →
      r.evaluated.badRun = r.badRun ∧
      (total < r.failed * 8 → r.evaluated.goodRun = 0 ∧ r.evaluated.grade =
        if r.pendingCause = some .stepDown ∨ r.grade = .guarded then .robust else .guarded) ∧
      (r.failed * 64 ≤ total → r.goodRun ≠ 3 →
        r.evaluated.grade = r.grade ∧ r.evaluated.goodRun = r.goodRun + 1) ∧
      (r.failed * 64 ≤ total → r.goodRun = 3 →
        r.evaluated.grade = .full ∧ r.evaluated.goodRun = 0) ∧
      (total < r.failed * 64 → r.failed * 8 ≤ total →
        r.evaluated.grade = r.grade ∧ r.evaluated.goodRun = 0)) ∧
    (r.grade = .robust →
      (r.failed * 64 ≤ total → r.evaluated.badRun = 0 ∧
        (r.goodRun ≠ 3 → r.evaluated.grade = .robust ∧ r.evaluated.goodRun = r.goodRun + 1) ∧
        (r.goodRun = 3 → r.evaluated.grade = .guarded ∧ r.evaluated.goodRun = 0)) ∧
      (total < r.failed * 4 → r.evaluated.goodRun = 0 ∧
        (r.badRun ≠ 1 → r.evaluated.grade = .robust ∧ r.evaluated.badRun = r.badRun + 1) ∧
        (r.badRun = 1 → r.evaluated.grade = .unreachable ∧ r.evaluated.badRun = 0)) ∧
      (total < r.failed * 64 → r.failed * 4 ≤ total →
        r.evaluated.grade = .robust ∧ r.evaluated.goodRun = 0 ∧ r.evaluated.badRun = 0)) ∧
    (r.grade = .unreachable → r.evaluated.goodRun = 0 ∧ r.evaluated.badRun = 0 ∧
      r.evaluated.grade = if r.failed * 16 ≤ total then .robust else .unreachable)) ∧
  (∀ (s : State) (l : LinkNo),
    (s.link l = none → s.idleLink l = s) ∧
    ∀ k r, s.link l = some k → r = { k.record with periods := min (k.record.periods + 1) 16 } →
      (r.periods = 16 → 32 ≤ r.ok + r.failed →
        s.idleLink l = s.evaluate l { k with record := r } .idle none) ∧
      (r.periods < 16 ∨ r.ok + r.failed < 32 →
        s.idleLink l = { s with links := s.links.set l.val (some { k with record := r }) l.isLt })) ∧
  (∀ (s u : State) (l : LinkNo) (k : Link) (trigger : Trigger) (zone : Option Nat) (old new : Grade),
    u = { s with links := s.links.set l.val (some { k with record := k.record.evaluated }) l.isLt } →
    old = k.record.grade → new = k.record.evaluated.grade →
    (new = old → s.evaluate l k trigger zone = u) ∧
    (new ≠ old → ∀ (v w : State) (escalated : Bool),
      v = { u with
        streams := v.streams
        planner := s.planner.offerUrgent l (if gradeCode old < gradeCode new then .stepDown else .stepUp) } →
      (∀ n, (v.stream n).refs = (s.stream n).refs) →
      (∀ n, (s.stream n).state = .free → (v.stream n).state = .free) →
      (∀ n e, (s.stream n).state = .active e →
        (v.stream n).state = if new = .unreachable ∧ e.link = some l then .suspended e else .active e) →
      (∀ n e, (s.stream n).state = .suspended e →
        (v.stream n).state = if old = .unreachable ∧ e.link = some l then .active e else .suspended e) →
      (escalated = true ↔ (old = .full ∨ old = .guarded) ∧ k.record.pendingCause = some .stepDown ∧
        k.record.ok + k.record.failed < k.record.failed * 8) →
      w = v.offerGeneral k.record.feed (.linkGrade l old new trigger escalated zone) →
      s.evaluate l k trigger zone =
        { w with mgp := { w.mgp with events := offerEventTo w.mgp.events (.linkGrade l old new) } })) ∧
  ∀ (p : Planner) (l : LinkNo) (cause : Cause),
    ((∀ e ∈ p.urgent, e.link ≠ l) → p.offerUrgent l cause = { p with
      urgent := p.urgent ++ [⟨l, cause⟩]
      normal := p.normal.filter fun e => decide (e.link ≠ l) }) ∧
    ((∃ e ∈ p.urgent, e.link = l) → p.offerUrgent l cause = { p with
      urgent := p.urgent.map fun e => if e.link = l ∧ cause ≠ .notch then ⟨l, cause⟩ else e })

/-! ### Chapter 10: frames and the state of a cycle link -/

/-- R175, R177, R178, section 10.3: a good frame is taken; of another type or length than the table's it is refused
BAD_FRAME with the report state kept; with the slot occupied, any frame is discarded, DROPPED set and the link
heard. A frame answered changes nothing but its line and LINK_STATE; the responses have the types and payloads of
section 10.3, R61 and R178, and their codes. The model's choices here: that UNKNOWN_FRAME with a known type and
length is that command (notes/assumptions/8.md), and that a frame row is the arrival of its END
(notes/assumptions/7.md). -/
def Obligations.GoodFramesAreTakenRefusedOrDropped : Prop :=
  (∀ (f : Feed) (tag : Byte) (s : State),
    (∀ a b c, exec (.unknownFrame f tag 0x11 [a, b, c]) s = exec (.mapFetch f tag a b c) s) ∧
    (∀ a b c d, exec (.unknownFrame f tag 0x12 [a, b, c, d]) s = exec (.measureOpen f tag a b c d) s) ∧
    (∀ q v0 v1 v2 v3 v4 v5 v6 v7, exec (.unknownFrame f tag 0x13 [q, v0, v1, v2, v3, v4, v5, v6, v7]) s =
      exec (.measureBlock f tag q #v[v0, v1, v2, v3, v4, v5, v6, v7]) s) ∧
    exec (.unknownFrame f tag 0x14 []) s = exec (.measureAbort f tag) s ∧
    (∀ l z oh ol fh fl x, exec (.unknownFrame f tag 0x15 [l, z, oh, ol, fh, fl, x]) s =
      exec (.deliveryReport f tag l z (oh ++ ol) (fh ++ fl) x) s) ∧
    (∀ a, exec (.unknownFrame f tag 0x16 [a]) s = exec (.heard f tag a) s) ∧
    exec (.unknownFrame f tag 0x17 []) s = exec (.positionQuery f tag) s ∧
    (∀ type payload, (s.clc.get f).slot = none → frameKnown type.toNat payload.length = false →
      ∃ t, exec (.unknownFrame f tag type payload) s = .next t ∧
        s.TookFrame t f tag (.refused .badFrame) ∧ t = (s.hearing f).respond f tag (.refused .badFrame) ∧
        (t.clc.get f).report = (s.clc.get f).report ∧
        ∀ b, (t.clc.get f).buffer b = (s.clc.get f).buffer b) ∧
    (∀ type payload c, s.clc.get f = c → c.slot ≠ none →
      exec (.unknownFrame f tag type payload) s = exec (.frameDiscarded f .slotOccupied) s ∧
      exec (.frameDiscarded f .slotOccupied) s =
        .next { s with
          clc := s.clc.set f
            { c with link := .up (s.now + 100000), receiver := .waiting, dropped := true }
          mgp := { s.mgp with events := s.eventsHeard f } })) ∧
  (∀ (s t : State) (f : Feed) (tag : Byte) (r : Response), t = (s.hearing f).respond f tag r →
    s.TookFrame t f tag r ∧ s.OnlyLineOf t f) ∧
  (∀ (data : List Byte) (x : Nat → Byte) (g : Grade) (tallied : Bool) (n : StationIx) (c : Completion)
    (v : BitVec 4) (next : Option (BitVec 4)) (l : LinkNo) (z : Nat) (p : Position), (∀ n, x n = BitVec.ofNat 8 n) →
    (Response.accepted.type, Response.accepted.payload data) = (0x21, []) ∧
    ((Response.acceptedDelivery g tallied).type, (Response.acceptedDelivery g tallied).payload data) =
      (0x21, [x (gradeCode g), if tallied then 1 else 0]) ∧
    ((Response.acceptedHeard (some n)).type, (Response.acceptedHeard (some n)).payload data) = (0x21, [1, x n.val]) ∧
    ((Response.acceptedHeard none).type, (Response.acceptedHeard none).payload data) = (0x21, [0, 255]) ∧
    ((Response.refused c).type, (Response.refused c).payload data) = (0x22, [x (completionCode c)]) ∧
    ((Response.refusedStale v next).type, (Response.refusedStale v next).payload data) =
      (0x22, [8, v.setWidth 8, (next.map fun w => w.setWidth 8).getD 255]) ∧
    (Response.mapData.type, Response.mapData.payload data) = (0x23, data) ∧
    ((Response.position p).type, (Response.position p).payload data) =
      ((0x24 : Byte), [x (mainsCode p.mains), x (p.period / 65536), x (p.period / 256), x p.period, x (seqCode p.seq),
        x (p.beaconCount.toNat / 256), x p.beaconCount.toNat, x p.halfIndex, x p.phase, x p.zone,
        match p.window with
          | some i => x i.val
          | none => 255]) ∧
    ((Response.reportClosed l z).type, (Response.reportClosed l z).payload data) = (0x25, [x l.val, x z])) ∧
  [Grade.full, .guarded, .robust, .unreachable].map gradeCode = [0, 1, 2, 3] ∧
  [MainsState.absent, .acquiring, .locked, .freeRun].map mainsCode = [0, 1, 2, 3] ∧
  [SeqState.stopped, .waitingSync, .running, .held].map seqCode = [0, 1, 2, 3] ∧
  [Completion.ok, .busy, .badParam, .noEntry, .noLink, .inUse, .full, .wrongState, .staleVersion, .badSchedule,
    .noSchedule, .badFrame].map completionCode = [0, 1, 2, 3, 4, 5, 6, 7, 8, 9, 10, 11]

/-- R171, R173, R174: a frame discarded at the receiver changes nothing but the receiver and the deadline of an UP
link, which an invalid code group does not move; START begins a new frame; a complement mismatch still brings the
link UP. -/
def Obligations.DiscardedFramesLeaveTheRest : Prop :=
  ∀ (f : Feed) (s : State) (c : Clc) (up : LinkState), s.clc.get f = c →
    (c.link = .down → up = .down) → (∀ d, c.link = .up d → up = .up (s.now + 100000)) →
    (∀ g, g = .endSym ∨ g = .idleSym →
      exec (.frameDiscarded f (.cutShort g)) s =
        .next { s with clc := s.clc.set f { c with receiver := .waiting, link := up } }) ∧
    exec (.frameDiscarded f (.cutShort .startSym)) s =
      .next { s with clc := s.clc.set f { c with receiver := .collecting [], link := up } } ∧
    exec (.frameDiscarded f (.cutShort .invalid)) s =
      .next { s with clc := s.clc.set f { c with receiver := .waiting } } ∧
    exec (.frameDiscarded f (.endMissing .startSym)) s =
      .next { s with clc := s.clc.set f { c with receiver := .collecting [], link := up } } ∧
    (∀ why, why = .endMissing .idleSym ∨ why = .overlong ∨ why = .badCrc →
      exec (.frameDiscarded f why) s =
        .next { s with clc := s.clc.set f { c with receiver := .waiting, link := up } }) ∧
    exec (.frameDiscarded f .badComplement) s =
      .next { s with
        clc := s.clc.set f { c with receiver := .waiting, link := .up (s.now + 100000) }
        mgp := { s.mgp with events := s.eventsHeard f } }

/-- R170, R171, R172, R174: a valid code group moves the deadline of an UP link and an invalid one does not; START
begins a frame, and a byte joins a frame that is not complete. A group that cuts a frame short, or stands where END
is due, and the END of a frame whose CRC or complement fails, is the FRAME_DISCARDED of that reason; the END of a
frame that passes both is its arrival, whatever FLAGS it carries. The CRC and the layout of a frame are those of
R172 and R171. START, the bytes of a frame in their layout with their CRC, and END, received one after the other,
are the arrival of that frame, from whatever state the receiver was in. The model's choices here: that a frame row
is the arrival of its END (notes/assumptions/7.md), and that UNKNOWN_FRAME with a known type and length is that
command (notes/assumptions/8.md). -/
def Obligations.ReceivedSymbolsSpellTheFrame : Prop :=
  (∀ (f : Feed) (s : State) (c : Clc) (up : LinkState), s.clc.get f = c →
    (c.link = .down → up = .down) → (∀ d, c.link = .up d → up = .up (s.now + 100000)) →
    (∀ g, c.receiver = .waiting → g ≠ .startSym → g ≠ .invalid →
      exec (.symbolReceived f g) s = .next { s with clc := s.clc.set f { c with link := up } }) ∧
    exec (.symbolReceived f .startSym) s =
      .next { s with clc := s.clc.set f { c with receiver := .collecting [], link := up } } ∧
    exec (.symbolReceived f .invalid) s =
      .next { s with clc := s.clc.set f { c with receiver := .waiting } } ∧
    (∀ bytes b, c.receiver = .collecting bytes →
      (bytes.length < 5 ∨ ∃ l, bytes[4]? = some l ∧ bytes.length < l.toNat + 7) →
      exec (.symbolReceived f (.data b)) s =
        .next { s with
          clc := s.clc.set f { c with receiver := .collecting (bytes ++ [b]), link := up } })) ∧
  (∀ (f : Feed) (s : State) (bytes : List Byte), (s.clc.get f).receiver = .collecting bytes →
    (bytes.length < 5 ∨ (∃ l, bytes[4]? = some l ∧ bytes.length < l.toNat + 7) →
      exec (.symbolReceived f .endSym) s = exec (.frameDiscarded f (.cutShort .endSym)) s ∧
      exec (.symbolReceived f .idleSym) s = exec (.frameDiscarded f (.cutShort .idleSym)) s ∧
      exec (.symbolReceived f .startSym) s = exec (.frameDiscarded f (.cutShort .startSym)) s ∧
      exec (.symbolReceived f .invalid) s = exec (.frameDiscarded f (.cutShort .invalid)) s) ∧
    ∀ (type complement tag flags len hi lo : Byte) (payload body : List Byte),
      payload.length = len.toNat → body = [type, complement, tag, flags, len] ++ payload →
      bytes = body ++ [hi, lo] →
      (hi ++ lo ≠ crc body → exec (.symbolReceived f .endSym) s = exec (.frameDiscarded f .badCrc) s) ∧
      (hi ++ lo = crc body → complement ≠ ~~~type →
        exec (.symbolReceived f .endSym) s = exec (.frameDiscarded f .badComplement) s) ∧
      (hi ++ lo = crc body → complement = ~~~type →
        exec (.symbolReceived f .endSym) s = exec (.unknownFrame f tag type payload) s) ∧
      exec (.symbolReceived f .idleSym) s = exec (.frameDiscarded f (.endMissing .idleSym)) s ∧
      exec (.symbolReceived f .startSym) s = exec (.frameDiscarded f (.endMissing .startSym)) s ∧
      exec (.symbolReceived f .invalid) s = exec (.frameDiscarded f (.cutShort .invalid)) s ∧
      ∀ b, exec (.symbolReceived f (.data b)) s = exec (.frameDiscarded f .overlong) s) ∧
  (∀ (bytes : List Byte) (b : Byte) (reg : Nat → Word), reg 0 = crc bytes →
    (∀ i < 8, reg (i + 1) =
      if (reg i).getLsbD 15 = b.getLsbD (7 - i) then reg i <<< 1 else (reg i <<< 1) ^^^ 0x1021) →
    crc [] = 0xFFFF ∧ crc (bytes ++ [b]) = reg 8) ∧
  (∀ (x : OutFrame) (body : List Byte),
    body = [x.type, ~~~x.type, x.tag, x.flags, BitVec.ofNat 8 x.payload.length] ++ x.payload →
    ∃ hi lo : Byte, hi ++ lo = crc body ∧ x.lineBytes = body ++ [hi, lo]) ∧
  ∀ (f : Feed) (s : State) (x : OutFrame), x.payload.length ≤ 255 →
    exec (.unknownFrame f x.tag x.type x.payload) s =
      .next (s.receiveAll f ([.startSym] ++ x.lineBytes.map .data ++ [.endSym]))

/-- R174, R107, R166: at the loss deadline cycle link f goes DOWN with its queues and slot emptied, each lost mark
set that has lost something, the fetch claim released, which completes a plan job that waits for it, and the open
report abandoned silently, its buffer FREE; the mains, the sequencers and the driver stand; before the deadline, and
in DOWN, nothing happens. That the line is free four ticks after the cut is DEDUCED (notes/assumptions/12.md). That
an expiry sent before the deadline, or in DOWN, changes nothing is the model's choice (notes/assumptions/5.md). -/
def Obligations.LossTakesTheLinkDown : Prop :=
  ∀ (f : Feed) (s : State) (c : Clc), s.clc.get f = c →
    (c.link = .down → exec (.lossDeadlineExpiry f) s = .next s) ∧
    (∀ d, c.link = .up d → s.now < d → exec (.lossDeadlineExpiry f) s = .next s) ∧
    (∀ d, c.link = .up d → d ≤ s.now → ∃ t, exec (.lossDeadlineExpiry f) s = .next t ∧
      (t.clc.get f).link = .down ∧ (t.clc.get f).receiver = .waiting ∧
      (t.clc.get f).transmitter.sending = none ∧ (t.clc.get f).timing = [] ∧
      (t.clc.get f).general = [] ∧ (t.clc.get f).slot = none ∧ (t.clc.get f).report = .idle ∧
      (t.clc.get f).dropped = (c.dropped || c.slot.isSome) ∧
      (t.clc.get f).timingLost = (c.timingLost || !c.timing.isEmpty || c.sends .timing) ∧
      (c.generalLost = true ∨ c.general ≠ [] ∨ c.sends .general = true →
        (t.clc.get f).generalLost = true) ∧
      t.claims = s.claims.set f none ∧
      t = { s with
        clc := t.clc
        claims := t.claims
        links := t.links
        planner := t.planner
        mgp := { s.mgp with events := offerEventTo s.mgp.events (.linkState f false) } } ∧
      (s.claims.get f = none → t.links = s.links ∧ t.planner = s.planner ∧
        ∀ g, g ≠ f → t.clc.get g = s.clc.get g) ∧
      ∀ u, u = { s with
          clc := s.clc.set f { c.emptied s.now with link := .down, receiver := .waiting } } →
        ((u.releaseClaim f).clc.get f).ReportDropped (t.clc.get f) ∧
        (∀ g, g ≠ f → t.clc.get g = (u.releaseClaim f).clc.get g) ∧
        t.links = (u.releaseClaim f).links ∧ t.planner = (u.releaseClaim f).planner)

/-- R164, R176, R179 to R182: the END of a notice frees the line, and of a response the slot too and the claim of a
MAP_DATA, released before or after the choice; the transmitter then begins the head of the timing queue, else the
response not yet begun, else the head of the general queue, with the lost mark of its kind in the flags and cleared.
An offered notice joins its queue and the transmitter chooses; a full timing queue loses its oldest, a full general
queue the notice offered, one MAP_NEXT or LINK_GRADE for a link replaces another in its place, and a DOWN link only
sets the mark. The notices have the types and payloads of section 10.3, R74, R108, R150 and R162, and their codes.
That the line is free four ticks after END, and the tick of the next END, are DEDUCED (notes/assumptions/12.md);
that nothing happens before the END is the model's choice (notes/assumptions/5.md). -/
def Obligations.FrameEndFreesTheLineAndChooses : Prop :=
  (∀ (f : Feed) (o : EndOrder) (s : State) (c : Clc) (x : Sending) (d : Nat) (slot : Option Slot)
      (next : FrameSource → OutFrame → Transmitter),
    s.clc.get f = c → c.link = .up d → c.transmitter.sending = some x →
    (s.now < x.endAt → exec (.frameEndSent f o) s = .next s) ∧
    (x.endAt ≤ s.now → s.claims.get f = none ∨ x.source ≠ .response →
      slot = (if x.source = .response then none else c.slot) →
      (∀ source y, next source y =
        ⟨s.now + 4, some ⟨source, y, s.now + 4 + 4 * (y.lineBytes.length + 2)⟩⟩) →
      (∀ n rest, c.timing = n :: rest → exec (.frameEndSent f o) s =
        .next { s with
          clc := s.clc.set f
            { c with
              slot := slot
              timing := rest
              timingLost := false
              transmitter := next .timing ⟨n.type, 0, if c.timingLost then 2 else 0, n.payload⟩ } }) ∧
      (∀ y, c.timing = [] → slot = some y → y.begun = false → exec (.frameEndSent f o) s =
        .next { s with
          clc := s.clc.set f
            { c with
              slot := some { y with begun := true }
              dropped := false
              transmitter := next .response
                ⟨y.response.type, y.tag, if c.dropped then 1 else 0, y.response.payload (s.mapData f)⟩ } }) ∧
      (c.timing = [] → slot = none →
        (∀ n rest, c.general = n :: rest → exec (.frameEndSent f o) s =
          .next { s with
            clc := s.clc.set f
              { c with
                slot := none
                general := rest
                generalLost := false
                transmitter := next .general ⟨n.type, 0, if c.generalLost then 4 else 0, n.payload⟩ } }) ∧
        (c.general = [] → exec (.frameEndSent f o) s =
          .next { s with
            clc := s.clc.set f { c with slot := none, transmitter := ⟨s.now + 4, none⟩ } }))) ∧
    (∀ a, x.endAt ≤ s.now → x.source = .response → s.claims.get f = some a →
      ∃ t, exec (.frameEndSent f o) s = .next t ∧ (t.clc.get f).slot = none ∧
        t.claims = s.claims.set f none ∧
        t = { s with clc := t.clc, claims := t.claims, links := t.links, planner := t.planner } ∧
        ∀ u, u = { s with
            clc := s.clc.set f { c with slot := none, transmitter := ⟨s.now + 4, none⟩ } } →
          (o = .releaseFirst → t = (u.releaseClaim f).chooseFrame f) ∧
          (o = .chooseFirst → t = (u.chooseFrame f).releaseClaim f))) ∧
  (∀ (s : State) (f : Feed) (c : Clc), s.clc.get f = c →
    (c.link = .down ∨ c.transmitter.sending ≠ none → s.chooseFrame f = s) ∧
    ∀ (d : Nat) (line : FrameSource → OutFrame → Transmitter), c.link = .up d →
      c.transmitter.sending = none →
      (∀ source x, line source x = ⟨c.transmitter.lineFree, some ⟨source, x,
        max s.now c.transmitter.lineFree + 4 * (x.lineBytes.length + 2)⟩⟩) →
      (∀ n rest, c.timing = n :: rest → s.chooseFrame f = { s with
        clc := s.clc.set f
          { c with
            timing := rest
            timingLost := false
            transmitter := line .timing ⟨n.type, 0, if c.timingLost then 2 else 0, n.payload⟩ } }) ∧
      (∀ y, c.timing = [] → c.slot = some y → y.begun = false → s.chooseFrame f = { s with
        clc := s.clc.set f
          { c with
            slot := some { y with begun := true }
            dropped := false
            transmitter := line .response
              ⟨y.response.type, y.tag, if c.dropped then 1 else 0, y.response.payload (s.mapData f)⟩ } }) ∧
      (c.timing = [] → (∀ y, c.slot = some y → y.begun = true) →
        (∀ n rest, c.general = n :: rest → s.chooseFrame f = { s with
          clc := s.clc.set f
            { c with
              general := rest
              generalLost := false
              transmitter := line .general ⟨n.type, 0, if c.generalLost then 4 else 0, n.payload⟩ } }) ∧
        (c.general = [] → s.chooseFrame f = s))) ∧
  (∀ (s : State) (f : Feed) (c : Clc) (n : TimingNotice), s.clc.get f = c →
    (c.link = .down → s.offerTiming f n = { s with clc := s.clc.set f { c with timingLost := true } }) ∧
    (∀ d, c.link = .up d →
      (c.timing.length < 8 → s.offerTiming f n =
        ({ s with clc := s.clc.set f { c with timing := c.timing ++ [n] } } : State).chooseFrame f) ∧
      (8 ≤ c.timing.length → s.offerTiming f n =
        ({ s with
          clc := s.clc.set f { c with timing := c.timing.drop 1 ++ [n], timingLost := true } } :
          State).chooseFrame f))) ∧
  (∀ (s : State) (f : Feed) (c : Clc) (n : GeneralNotice) (same : GeneralNotice → Prop),
    s.clc.get f = c →
    (∀ x, same x ↔ (∃ l v i k v' i' k', n = .mapNext l v i k ∧ x = .mapNext l v' i' k') ∨
      ∃ l o g w e z o' g' w' e' z', n = .linkGrade l o g w e z ∧ x = .linkGrade l o' g' w' e' z') →
    (c.link = .down → s.offerGeneral f n = { s with clc := s.clc.set f { c with generalLost := true } }) ∧
    (∀ d, c.link = .up d →
      (∀ before x after, c.general = before ++ x :: after → same x → (∀ y ∈ before, ¬same y) →
        s.offerGeneral f n =
          ({ s with clc := s.clc.set f { c with general := before ++ n :: after } } :
            State).chooseFrame f) ∧
      ((∀ x ∈ c.general, ¬same x) → c.general.length < 8 → s.offerGeneral f n =
        ({ s with clc := s.clc.set f { c with general := c.general ++ [n] } } : State).chooseFrame f) ∧
      ((∀ x ∈ c.general, ¬same x) → 8 ≤ c.general.length → s.offerGeneral f n =
        ({ s with clc := s.clc.set f { c with generalLost := true } } : State).chooseFrame f))) ∧
  (∀ (s : State) (f : Feed) (tag : Byte) (r : Response), s.respond f tag r =
    ({ s with clc := s.clc.set f { s.clc.get f with slot := some ⟨tag, r, false⟩ } } :
      State).chooseFrame f) ∧
  (∀ (x : Nat → Byte) (address : Option Byte → Byte) (other : Option Feed → Byte) (count : Word)
    (p len k down half z phase dur blocks : Nat) (pol : Polarity) (w : WindowInfo) (cls : ClaimClass) (i : SlotNo)
    (c : DriverClass) (shared : List Byte) (late : Bool) (g : Option Feed) (l : LinkNo) (v : BitVec 4) (cause : Cause)
    (old new : Grade) (trigger : Trigger) (escalated : Bool) (zone : Option Nat) (f : Feed) (m : MainsState)
    (q : SeqState) (reason : AbandonReason),
    (∀ n, x n = BitVec.ofNat 8 n) → address none = 0 → (∀ b, address (some b) = b) →
    other none = 255 → (∀ h, other (some h) = x (feedIndex h)) →
    shared = [x w.half.val, x w.phase.val, x w.index.val, x (kindCode w.kind), address w.transmitter,
      address w.receiver, address w.probe] →
    ((TimingNotice.beaconStart count p len k down).type, (TimingNotice.beaconStart count p len k down).payload) =
      (0x41, [x (count.toNat / 256), x count.toNat, x (p / 65536), x (p / 256), x p, x len, x k, x down]) ∧
    ((TimingNotice.zone half pol z phase k).type, (TimingNotice.zone half pol z phase k).payload) =
      (0x42, [x half, if pol = .positive then 0 else 1, x z, x phase, x k]) ∧
    ((TimingNotice.window count w cls dur).type, (TimingNotice.window count w cls dur).payload) =
      (0x43, [x (count.toNat / 256), x count.toNat] ++ shared ++
        [x (classCode cls), x (dur / 65536), x (dur / 256), x dur, if w.skipped then 1 else 0]) ∧
    ((TimingNotice.windowShort w).type, (TimingNotice.windowShort w).payload) =
      (0x44, shared ++ [if w.skipped then 1 else 0]) ∧
    (∀ o, (TimingNotice.driver o i c).type = 0x45) ∧
    (TimingNotice.driver (.granted late) i c).payload =
      [1, x i.val, x (classCode (some c)), 255, if late then 1 else 0] ∧
    (TimingNotice.driver (.waiting g) i c).payload = [2, x i.val, x (classCode (some c)), other g, 0] ∧
    (TimingNotice.driver (.lost g) i c).payload = [3, x i.val, x (classCode (some c)), other g, 0] ∧
    ((GeneralNotice.mapNext l v down cause).type, (GeneralNotice.mapNext l v down cause).payload) =
      (0x51, [x l.val, v.setWidth 8, x down, x (causeCode (some cause))]) ∧
    ((GeneralNotice.mapSwitched l v new).type, (GeneralNotice.mapSwitched l v new).payload) =
      (0x52, [x l.val, v.setWidth 8, x (gradeCode new)]) ∧
    ((GeneralNotice.linkGrade l old new trigger escalated zone).type,
        (GeneralNotice.linkGrade l old new trigger escalated zone).payload) =
      (0x53, [x l.val, x (gradeCode old), x (gradeCode new), if trigger = .report then 1 else 2,
        if escalated then 1 else 0, x (zone.getD 255)]) ∧
    ((GeneralNotice.feedState f m q p).type, (GeneralNotice.feedState f m q p).payload) =
      (0x54, [x (feedIndex f), x (mainsCode m), x (seqCode q), x (p / 65536), x (p / 256), x p]) ∧
    ((GeneralNotice.reportAbandoned l z reason blocks).type,
        (GeneralNotice.reportAbandoned l z reason blocks).payload) =
      (0x55, [x l.val, x z, x (reasonCode reason), x blocks])) ∧
  [Feed.a, .b, .c].map feedIndex = [0, 1, 2] ∧
  [KindName.beacon, .shared, .reserved, .quiet, .probe].map kindCode = [0, 1, 2, 3, 4] ∧
  [none, some .soft, some .hard, some .beacon].map classCode = [0, 1, 2, 3] ∧
  [none, some .plan, some .stepUp, some .stepDown, some .notch].map causeCode = [0, 1, 2, 3, 4] ∧
  [AbandonReason.sequence, .timeout, .linkRemoved].map reasonCode = [1, 2, 3]
end

