-- ==== Sys2Proof/Laws/State.lean ====
section
/-! SUPPORT. What the single updates of the state leave and what they put in place: one lemma for each field
under each update, and the reading of a table after a write to it. -/
namespace Sys2Proof.Machine

/-! ### Tables of feeds -/

@[simp] theorem PerFeed.get_set_self {α : Type} (t : PerFeed α) (f : Feed) (x : α) :
    (t.set f x).get f = x := by cases f <;> rfl

theorem PerFeed.get_set_of_ne {α : Type} (t : PerFeed α) {f g : Feed} (h : g ≠ f) (x : α) :
    (t.set f x).get g = t.get g := by cases f <;> cases g <;> first | rfl | exact absurd rfl h

theorem PerFeed.get_set {α : Type} (t : PerFeed α) (f g : Feed) (x : α) :
    (t.set f x).get g = if g = f then x else t.get g := by cases f <;> cases g <;> rfl

@[simp] theorem PerFeed.get_all {α : Type} (x : α) (f : Feed) : (PerFeed.all x).get f = x := by
  cases f <;> rfl

@[simp] theorem PerFeed.set_set {α : Type} (t : PerFeed α) (f : Feed) (x y : α) :
    (t.set f x).set f y = t.set f y := by cases f <;> rfl

@[simp] theorem PerFeed.set_get {α : Type} (t : PerFeed α) (f : Feed) : t.set f (t.get f) = t := by
  cases f <;> rfl

@[simp] theorem mem_feeds (f : Feed) : f ∈ feeds := by cases f <;> simp [feeds]

/-! ### One field under one update -/

@[simp] theorem State.setMtu_now (s : State) (f : Feed) (x : Mtu) : (s.setMtu f x).now = s.now := rfl
@[simp] theorem State.setMtu_mtu (s : State) (f : Feed) (x : Mtu) : (s.setMtu f x).mtu = s.mtu.set f x := rfl
@[simp] theorem State.setMtu_csq (s : State) (f : Feed) (x : Mtu) : (s.setMtu f x).csq = s.csq := rfl
@[simp] theorem State.setMtu_pda (s : State) (f : Feed) (x : Mtu) : (s.setMtu f x).pda = s.pda := rfl
@[simp] theorem State.setMtu_stations (s : State) (f : Feed) (x : Mtu) : (s.setMtu f x).stations = s.stations := rfl
@[simp] theorem State.setMtu_streams (s : State) (f : Feed) (x : Mtu) : (s.setMtu f x).streams = s.streams := rfl
@[simp] theorem State.setMtu_links (s : State) (f : Feed) (x : Mtu) : (s.setMtu f x).links = s.links := rfl
@[simp] theorem State.setMtu_notch (s : State) (f : Feed) (x : Mtu) : (s.setMtu f x).notch = s.notch := rfl
@[simp] theorem State.setMtu_claims (s : State) (f : Feed) (x : Mtu) : (s.setMtu f x).claims = s.claims := rfl
@[simp] theorem State.setMtu_planner (s : State) (f : Feed) (x : Mtu) : (s.setMtu f x).planner = s.planner := rfl
@[simp] theorem State.setMtu_clc (s : State) (f : Feed) (x : Mtu) : (s.setMtu f x).clc = s.clc := rfl
@[simp] theorem State.setMtu_mgp (s : State) (f : Feed) (x : Mtu) : (s.setMtu f x).mgp = s.mgp := rfl
@[simp] theorem State.setMtu_choices (s : State) (f : Feed) (x : Mtu) : (s.setMtu f x).choices = s.choices := rfl
@[simp] theorem State.setMtu_pending (s : State) (f : Feed) (x : Mtu) : (s.setMtu f x).pending = s.pending := rfl

@[simp] theorem State.setCsq_now (s : State) (f : Feed) (x : Csq) : (s.setCsq f x).now = s.now := rfl
@[simp] theorem State.setCsq_mtu (s : State) (f : Feed) (x : Csq) : (s.setCsq f x).mtu = s.mtu := rfl
@[simp] theorem State.setCsq_csq (s : State) (f : Feed) (x : Csq) : (s.setCsq f x).csq = s.csq.set f x := rfl
@[simp] theorem State.setCsq_pda (s : State) (f : Feed) (x : Csq) : (s.setCsq f x).pda = s.pda := rfl
@[simp] theorem State.setCsq_stations (s : State) (f : Feed) (x : Csq) : (s.setCsq f x).stations = s.stations := rfl
@[simp] theorem State.setCsq_streams (s : State) (f : Feed) (x : Csq) : (s.setCsq f x).streams = s.streams := rfl
@[simp] theorem State.setCsq_links (s : State) (f : Feed) (x : Csq) : (s.setCsq f x).links = s.links := rfl
@[simp] theorem State.setCsq_notch (s : State) (f : Feed) (x : Csq) : (s.setCsq f x).notch = s.notch := rfl
@[simp] theorem State.setCsq_claims (s : State) (f : Feed) (x : Csq) : (s.setCsq f x).claims = s.claims := rfl
@[simp] theorem State.setCsq_planner (s : State) (f : Feed) (x : Csq) : (s.setCsq f x).planner = s.planner := rfl
@[simp] theorem State.setCsq_clc (s : State) (f : Feed) (x : Csq) : (s.setCsq f x).clc = s.clc := rfl
@[simp] theorem State.setCsq_mgp (s : State) (f : Feed) (x : Csq) : (s.setCsq f x).mgp = s.mgp := rfl
@[simp] theorem State.setCsq_choices (s : State) (f : Feed) (x : Csq) : (s.setCsq f x).choices = s.choices := rfl
@[simp] theorem State.setCsq_pending (s : State) (f : Feed) (x : Csq) : (s.setCsq f x).pending = s.pending := rfl

@[simp] theorem State.setClc_now (s : State) (f : Feed) (x : Clc) : (s.setClc f x).now = s.now := rfl
@[simp] theorem State.setClc_mtu (s : State) (f : Feed) (x : Clc) : (s.setClc f x).mtu = s.mtu := rfl
@[simp] theorem State.setClc_csq (s : State) (f : Feed) (x : Clc) : (s.setClc f x).csq = s.csq := rfl
@[simp] theorem State.setClc_pda (s : State) (f : Feed) (x : Clc) : (s.setClc f x).pda = s.pda := rfl
@[simp] theorem State.setClc_stations (s : State) (f : Feed) (x : Clc) : (s.setClc f x).stations = s.stations := rfl
@[simp] theorem State.setClc_streams (s : State) (f : Feed) (x : Clc) : (s.setClc f x).streams = s.streams := rfl
@[simp] theorem State.setClc_links (s : State) (f : Feed) (x : Clc) : (s.setClc f x).links = s.links := rfl
@[simp] theorem State.setClc_notch (s : State) (f : Feed) (x : Clc) : (s.setClc f x).notch = s.notch := rfl
@[simp] theorem State.setClc_claims (s : State) (f : Feed) (x : Clc) : (s.setClc f x).claims = s.claims := rfl
@[simp] theorem State.setClc_planner (s : State) (f : Feed) (x : Clc) : (s.setClc f x).planner = s.planner := rfl
@[simp] theorem State.setClc_clc (s : State) (f : Feed) (x : Clc) : (s.setClc f x).clc = s.clc.set f x := rfl
@[simp] theorem State.setClc_mgp (s : State) (f : Feed) (x : Clc) : (s.setClc f x).mgp = s.mgp := rfl
@[simp] theorem State.setClc_choices (s : State) (f : Feed) (x : Clc) : (s.setClc f x).choices = s.choices := rfl
@[simp] theorem State.setClc_pending (s : State) (f : Feed) (x : Clc) : (s.setClc f x).pending = s.pending := rfl

@[simp] theorem State.setClaim_now (s : State) (f : Feed) (x : Option FetchClaim) : (s.setClaim f x).now = s.now := rfl
@[simp] theorem State.setClaim_mtu (s : State) (f : Feed) (x : Option FetchClaim) : (s.setClaim f x).mtu = s.mtu := rfl
@[simp] theorem State.setClaim_csq (s : State) (f : Feed) (x : Option FetchClaim) : (s.setClaim f x).csq = s.csq := rfl
@[simp] theorem State.setClaim_pda (s : State) (f : Feed) (x : Option FetchClaim) : (s.setClaim f x).pda = s.pda := rfl
@[simp] theorem State.setClaim_stations (s : State) (f : Feed) (x : Option FetchClaim) : (s.setClaim f x).stations = s.stations := rfl
@[simp] theorem State.setClaim_streams (s : State) (f : Feed) (x : Option FetchClaim) : (s.setClaim f x).streams = s.streams := rfl
@[simp] theorem State.setClaim_links (s : State) (f : Feed) (x : Option FetchClaim) : (s.setClaim f x).links = s.links := rfl
@[simp] theorem State.setClaim_notch (s : State) (f : Feed) (x : Option FetchClaim) : (s.setClaim f x).notch = s.notch := rfl
@[simp] theorem State.setClaim_claims (s : State) (f : Feed) (x : Option FetchClaim) : (s.setClaim f x).claims = s.claims.set f x := rfl
@[simp] theorem State.setClaim_planner (s : State) (f : Feed) (x : Option FetchClaim) : (s.setClaim f x).planner = s.planner := rfl
@[simp] theorem State.setClaim_clc (s : State) (f : Feed) (x : Option FetchClaim) : (s.setClaim f x).clc = s.clc := rfl
@[simp] theorem State.setClaim_mgp (s : State) (f : Feed) (x : Option FetchClaim) : (s.setClaim f x).mgp = s.mgp := rfl
@[simp] theorem State.setClaim_choices (s : State) (f : Feed) (x : Option FetchClaim) : (s.setClaim f x).choices = s.choices := rfl
@[simp] theorem State.setClaim_pending (s : State) (f : Feed) (x : Option FetchClaim) : (s.setClaim f x).pending = s.pending := rfl

@[simp] theorem State.setPda_now (s : State) (x : Pda) : (s.setPda x).now = s.now := rfl
@[simp] theorem State.setPda_mtu (s : State) (x : Pda) : (s.setPda x).mtu = s.mtu := rfl
@[simp] theorem State.setPda_csq (s : State) (x : Pda) : (s.setPda x).csq = s.csq := rfl
@[simp] theorem State.setPda_pda (s : State) (x : Pda) : (s.setPda x).pda = x := rfl
@[simp] theorem State.setPda_stations (s : State) (x : Pda) : (s.setPda x).stations = s.stations := rfl
@[simp] theorem State.setPda_streams (s : State) (x : Pda) : (s.setPda x).streams = s.streams := rfl
@[simp] theorem State.setPda_links (s : State) (x : Pda) : (s.setPda x).links = s.links := rfl
@[simp] theorem State.setPda_notch (s : State) (x : Pda) : (s.setPda x).notch = s.notch := rfl
@[simp] theorem State.setPda_claims (s : State) (x : Pda) : (s.setPda x).claims = s.claims := rfl
@[simp] theorem State.setPda_planner (s : State) (x : Pda) : (s.setPda x).planner = s.planner := rfl
@[simp] theorem State.setPda_clc (s : State) (x : Pda) : (s.setPda x).clc = s.clc := rfl
@[simp] theorem State.setPda_mgp (s : State) (x : Pda) : (s.setPda x).mgp = s.mgp := rfl
@[simp] theorem State.setPda_choices (s : State) (x : Pda) : (s.setPda x).choices = s.choices := rfl
@[simp] theorem State.setPda_pending (s : State) (x : Pda) : (s.setPda x).pending = s.pending := rfl

@[simp] theorem State.setPlanner_now (s : State) (x : Planner) : (s.setPlanner x).now = s.now := rfl
@[simp] theorem State.setPlanner_mtu (s : State) (x : Planner) : (s.setPlanner x).mtu = s.mtu := rfl
@[simp] theorem State.setPlanner_csq (s : State) (x : Planner) : (s.setPlanner x).csq = s.csq := rfl
@[simp] theorem State.setPlanner_pda (s : State) (x : Planner) : (s.setPlanner x).pda = s.pda := rfl
@[simp] theorem State.setPlanner_stations (s : State) (x : Planner) : (s.setPlanner x).stations = s.stations := rfl
@[simp] theorem State.setPlanner_streams (s : State) (x : Planner) : (s.setPlanner x).streams = s.streams := rfl
@[simp] theorem State.setPlanner_links (s : State) (x : Planner) : (s.setPlanner x).links = s.links := rfl
@[simp] theorem State.setPlanner_notch (s : State) (x : Planner) : (s.setPlanner x).notch = s.notch := rfl
@[simp] theorem State.setPlanner_claims (s : State) (x : Planner) : (s.setPlanner x).claims = s.claims := rfl
@[simp] theorem State.setPlanner_planner (s : State) (x : Planner) : (s.setPlanner x).planner = x := rfl
@[simp] theorem State.setPlanner_clc (s : State) (x : Planner) : (s.setPlanner x).clc = s.clc := rfl
@[simp] theorem State.setPlanner_mgp (s : State) (x : Planner) : (s.setPlanner x).mgp = s.mgp := rfl
@[simp] theorem State.setPlanner_choices (s : State) (x : Planner) : (s.setPlanner x).choices = s.choices := rfl
@[simp] theorem State.setPlanner_pending (s : State) (x : Planner) : (s.setPlanner x).pending = s.pending := rfl

@[simp] theorem State.setMgp_now (s : State) (x : Mgp) : (s.setMgp x).now = s.now := rfl
@[simp] theorem State.setMgp_mtu (s : State) (x : Mgp) : (s.setMgp x).mtu = s.mtu := rfl
@[simp] theorem State.setMgp_csq (s : State) (x : Mgp) : (s.setMgp x).csq = s.csq := rfl
@[simp] theorem State.setMgp_pda (s : State) (x : Mgp) : (s.setMgp x).pda = s.pda := rfl
@[simp] theorem State.setMgp_stations (s : State) (x : Mgp) : (s.setMgp x).stations = s.stations := rfl
@[simp] theorem State.setMgp_streams (s : State) (x : Mgp) : (s.setMgp x).streams = s.streams := rfl
@[simp] theorem State.setMgp_links (s : State) (x : Mgp) : (s.setMgp x).links = s.links := rfl
@[simp] theorem State.setMgp_notch (s : State) (x : Mgp) : (s.setMgp x).notch = s.notch := rfl
@[simp] theorem State.setMgp_claims (s : State) (x : Mgp) : (s.setMgp x).claims = s.claims := rfl
@[simp] theorem State.setMgp_planner (s : State) (x : Mgp) : (s.setMgp x).planner = s.planner := rfl
@[simp] theorem State.setMgp_clc (s : State) (x : Mgp) : (s.setMgp x).clc = s.clc := rfl
@[simp] theorem State.setMgp_mgp (s : State) (x : Mgp) : (s.setMgp x).mgp = x := rfl
@[simp] theorem State.setMgp_choices (s : State) (x : Mgp) : (s.setMgp x).choices = s.choices := rfl
@[simp] theorem State.setMgp_pending (s : State) (x : Mgp) : (s.setMgp x).pending = s.pending := rfl

@[simp] theorem State.setLink_now (s : State) (l : LinkNo) (x : Option Link) : (s.setLink l x).now = s.now := rfl
@[simp] theorem State.setLink_mtu (s : State) (l : LinkNo) (x : Option Link) : (s.setLink l x).mtu = s.mtu := rfl
@[simp] theorem State.setLink_csq (s : State) (l : LinkNo) (x : Option Link) : (s.setLink l x).csq = s.csq := rfl
@[simp] theorem State.setLink_pda (s : State) (l : LinkNo) (x : Option Link) : (s.setLink l x).pda = s.pda := rfl
@[simp] theorem State.setLink_stations (s : State) (l : LinkNo) (x : Option Link) : (s.setLink l x).stations = s.stations := rfl
@[simp] theorem State.setLink_streams (s : State) (l : LinkNo) (x : Option Link) : (s.setLink l x).streams = s.streams := rfl
@[simp] theorem State.setLink_links (s : State) (l : LinkNo) (x : Option Link) : (s.setLink l x).links = s.links.set l.val x l.isLt := rfl
@[simp] theorem State.setLink_notch (s : State) (l : LinkNo) (x : Option Link) : (s.setLink l x).notch = s.notch := rfl
@[simp] theorem State.setLink_claims (s : State) (l : LinkNo) (x : Option Link) : (s.setLink l x).claims = s.claims := rfl
@[simp] theorem State.setLink_planner (s : State) (l : LinkNo) (x : Option Link) : (s.setLink l x).planner = s.planner := rfl
@[simp] theorem State.setLink_clc (s : State) (l : LinkNo) (x : Option Link) : (s.setLink l x).clc = s.clc := rfl
@[simp] theorem State.setLink_mgp (s : State) (l : LinkNo) (x : Option Link) : (s.setLink l x).mgp = s.mgp := rfl
@[simp] theorem State.setLink_choices (s : State) (l : LinkNo) (x : Option Link) : (s.setLink l x).choices = s.choices := rfl
@[simp] theorem State.setLink_pending (s : State) (l : LinkNo) (x : Option Link) : (s.setLink l x).pending = s.pending := rfl

@[simp] theorem State.setStation_now (s : State) (n : StationIx) (x : Station) : (s.setStation n x).now = s.now := rfl
@[simp] theorem State.setStation_mtu (s : State) (n : StationIx) (x : Station) : (s.setStation n x).mtu = s.mtu := rfl
@[simp] theorem State.setStation_csq (s : State) (n : StationIx) (x : Station) : (s.setStation n x).csq = s.csq := rfl
@[simp] theorem State.setStation_pda (s : State) (n : StationIx) (x : Station) : (s.setStation n x).pda = s.pda := rfl
@[simp] theorem State.setStation_stations (s : State) (n : StationIx) (x : Station) : (s.setStation n x).stations = s.stations.set n.val x n.isLt := rfl
@[simp] theorem State.setStation_streams (s : State) (n : StationIx) (x : Station) : (s.setStation n x).streams = s.streams := rfl
@[simp] theorem State.setStation_links (s : State) (n : StationIx) (x : Station) : (s.setStation n x).links = s.links := rfl
@[simp] theorem State.setStation_notch (s : State) (n : StationIx) (x : Station) : (s.setStation n x).notch = s.notch := rfl
@[simp] theorem State.setStation_claims (s : State) (n : StationIx) (x : Station) : (s.setStation n x).claims = s.claims := rfl
@[simp] theorem State.setStation_planner (s : State) (n : StationIx) (x : Station) : (s.setStation n x).planner = s.planner := rfl
@[simp] theorem State.setStation_clc (s : State) (n : StationIx) (x : Station) : (s.setStation n x).clc = s.clc := rfl
@[simp] theorem State.setStation_mgp (s : State) (n : StationIx) (x : Station) : (s.setStation n x).mgp = s.mgp := rfl
@[simp] theorem State.setStation_choices (s : State) (n : StationIx) (x : Station) : (s.setStation n x).choices = s.choices := rfl
@[simp] theorem State.setStation_pending (s : State) (n : StationIx) (x : Station) : (s.setStation n x).pending = s.pending := rfl

@[simp] theorem State.setStream_now (s : State) (n : StreamNo) (x : Stream) : (s.setStream n x).now = s.now := rfl
@[simp] theorem State.setStream_mtu (s : State) (n : StreamNo) (x : Stream) : (s.setStream n x).mtu = s.mtu := rfl
@[simp] theorem State.setStream_csq (s : State) (n : StreamNo) (x : Stream) : (s.setStream n x).csq = s.csq := rfl
@[simp] theorem State.setStream_pda (s : State) (n : StreamNo) (x : Stream) : (s.setStream n x).pda = s.pda := rfl
@[simp] theorem State.setStream_stations (s : State) (n : StreamNo) (x : Stream) : (s.setStream n x).stations = s.stations := rfl
@[simp] theorem State.setStream_streams (s : State) (n : StreamNo) (x : Stream) : (s.setStream n x).streams = s.streams.set n.val x n.isLt := rfl
@[simp] theorem State.setStream_links (s : State) (n : StreamNo) (x : Stream) : (s.setStream n x).links = s.links := rfl
@[simp] theorem State.setStream_notch (s : State) (n : StreamNo) (x : Stream) : (s.setStream n x).notch = s.notch := rfl
@[simp] theorem State.setStream_claims (s : State) (n : StreamNo) (x : Stream) : (s.setStream n x).claims = s.claims := rfl
@[simp] theorem State.setStream_planner (s : State) (n : StreamNo) (x : Stream) : (s.setStream n x).planner = s.planner := rfl
@[simp] theorem State.setStream_clc (s : State) (n : StreamNo) (x : Stream) : (s.setStream n x).clc = s.clc := rfl
@[simp] theorem State.setStream_mgp (s : State) (n : StreamNo) (x : Stream) : (s.setStream n x).mgp = s.mgp := rfl
@[simp] theorem State.setStream_choices (s : State) (n : StreamNo) (x : Stream) : (s.setStream n x).choices = s.choices := rfl
@[simp] theorem State.setStream_pending (s : State) (n : StreamNo) (x : Stream) : (s.setStream n x).pending = s.pending := rfl

/-! ### Reading a table after a write -/

@[simp] theorem State.link_setLink_self (s : State) {l : LinkNo} (h : 6 ≤ l.val) (x : Option Link) :
    (s.setLink l x).link l = x := by
  have : ¬l.val < 6 := by omega
  simp [State.link, State.setLink, this]

theorem State.link_setLink_of_ne (s : State) {l m : LinkNo} (h : m ≠ l) (x : Option Link) :
    (s.setLink l x).link m = s.link m := by
  have hv : l.val ≠ m.val := fun e => h (Fin.ext e.symm)
  simp [State.link, State.setLink, hv]

/-- A LIVE link has a number from 6 on (R79). -/
theorem State.six_le_of_link {s : State} {l : LinkNo} {k : Link} (h : s.link l = some k) : 6 ≤ l.val := by
  unfold State.link at h
  split at h
  · cases h
  · omega

@[simp] theorem State.station_setStation_self (s : State) (n : StationIx) (x : Station) :
    (s.setStation n x).station n = x := by
  simp [State.station, State.setStation]

theorem State.station_setStation_of_ne (s : State) {n m : StationIx} (h : m ≠ n) (x : Station) :
    (s.setStation n x).station m = s.station m := by
  have hv : n.val ≠ m.val := fun e => h (Fin.ext e.symm)
  simp [State.station, State.setStation, hv]

@[simp] theorem State.stream_setStream_self (s : State) (n : StreamNo) (x : Stream) :
    (s.setStream n x).stream n = x := by
  simp [State.stream, State.setStream]

theorem State.stream_setStream_of_ne (s : State) {n m : StreamNo} (h : m ≠ n) (x : Stream) :
    (s.setStream n x).stream m = s.stream m := by
  have hv : n.val ≠ m.val := fun e => h (Fin.ext e.symm)
  simp [State.stream, State.setStream, hv]

theorem State.link_congr {s t : State} (h : t.links = s.links) (l : LinkNo) : t.link l = s.link l := by
  simp [State.link, h]

theorem State.station_congr {s t : State} (h : t.stations = s.stations) (n : StationIx) :
    t.station n = s.station n := by simp [State.station, h]

theorem State.stream_congr {s t : State} (h : t.streams = s.streams) (n : StreamNo) :
    t.stream n = s.stream n := by simp [State.stream, h]

/-! ### Buffers of a CLC -/

@[simp] theorem Clc.buffer_setBuffer_self (c : Clc) (b : BufNo) (x : Buffer) :
    (c.setBuffer b x).buffer b = x := by cases b <;> rfl

theorem Clc.buffer_setBuffer_of_ne (c : Clc) {a b : BufNo} (h : a ≠ b) (x : Buffer) :
    (c.setBuffer b x).buffer a = c.buffer a := by cases a <;> cases b <;> first | rfl | exact absurd rfl h

end Sys2Proof.Machine
end

