-- ==== Sys2Proof/Laws/Frames.lean ====
section
/-! SUPPORT. What each shared operation leaves unchanged: one lemma for each operation, naming every field of
the state that it does not touch. A field a lemma does not name is one the operation may change. -/
namespace Sys2Proof.Machine

/-! ### Folding an operation over a list -/

theorem State.forEach_now {α : Type} (l : List α) (g : State → α → State)
    (h : ∀ s a, (g s a).now = s.now) (s : State) : (s.forEach l g).now = s.now := by
  induction l generalizing s with
  | nil => rfl
  | cons a rest ih => exact (ih (g s a)).trans (h s a)

theorem State.forEach_mtu {α : Type} (l : List α) (g : State → α → State)
    (h : ∀ s a, (g s a).mtu = s.mtu) (s : State) : (s.forEach l g).mtu = s.mtu := by
  induction l generalizing s with
  | nil => rfl
  | cons a rest ih => exact (ih (g s a)).trans (h s a)

theorem State.forEach_csq {α : Type} (l : List α) (g : State → α → State)
    (h : ∀ s a, (g s a).csq = s.csq) (s : State) : (s.forEach l g).csq = s.csq := by
  induction l generalizing s with
  | nil => rfl
  | cons a rest ih => exact (ih (g s a)).trans (h s a)

theorem State.forEach_pda {α : Type} (l : List α) (g : State → α → State)
    (h : ∀ s a, (g s a).pda = s.pda) (s : State) : (s.forEach l g).pda = s.pda := by
  induction l generalizing s with
  | nil => rfl
  | cons a rest ih => exact (ih (g s a)).trans (h s a)

theorem State.forEach_stations {α : Type} (l : List α) (g : State → α → State)
    (h : ∀ s a, (g s a).stations = s.stations) (s : State) : (s.forEach l g).stations = s.stations := by
  induction l generalizing s with
  | nil => rfl
  | cons a rest ih => exact (ih (g s a)).trans (h s a)

theorem State.forEach_streams {α : Type} (l : List α) (g : State → α → State)
    (h : ∀ s a, (g s a).streams = s.streams) (s : State) : (s.forEach l g).streams = s.streams := by
  induction l generalizing s with
  | nil => rfl
  | cons a rest ih => exact (ih (g s a)).trans (h s a)

theorem State.forEach_links {α : Type} (l : List α) (g : State → α → State)
    (h : ∀ s a, (g s a).links = s.links) (s : State) : (s.forEach l g).links = s.links := by
  induction l generalizing s with
  | nil => rfl
  | cons a rest ih => exact (ih (g s a)).trans (h s a)

theorem State.forEach_notch {α : Type} (l : List α) (g : State → α → State)
    (h : ∀ s a, (g s a).notch = s.notch) (s : State) : (s.forEach l g).notch = s.notch := by
  induction l generalizing s with
  | nil => rfl
  | cons a rest ih => exact (ih (g s a)).trans (h s a)

theorem State.forEach_claims {α : Type} (l : List α) (g : State → α → State)
    (h : ∀ s a, (g s a).claims = s.claims) (s : State) : (s.forEach l g).claims = s.claims := by
  induction l generalizing s with
  | nil => rfl
  | cons a rest ih => exact (ih (g s a)).trans (h s a)

theorem State.forEach_planner {α : Type} (l : List α) (g : State → α → State)
    (h : ∀ s a, (g s a).planner = s.planner) (s : State) : (s.forEach l g).planner = s.planner := by
  induction l generalizing s with
  | nil => rfl
  | cons a rest ih => exact (ih (g s a)).trans (h s a)

theorem State.forEach_clc {α : Type} (l : List α) (g : State → α → State)
    (h : ∀ s a, (g s a).clc = s.clc) (s : State) : (s.forEach l g).clc = s.clc := by
  induction l generalizing s with
  | nil => rfl
  | cons a rest ih => exact (ih (g s a)).trans (h s a)

theorem State.forEach_mgp {α : Type} (l : List α) (g : State → α → State)
    (h : ∀ s a, (g s a).mgp = s.mgp) (s : State) : (s.forEach l g).mgp = s.mgp := by
  induction l generalizing s with
  | nil => rfl
  | cons a rest ih => exact (ih (g s a)).trans (h s a)

theorem State.forEach_choices {α : Type} (l : List α) (g : State → α → State)
    (h : ∀ s a, (g s a).choices = s.choices) (s : State) : (s.forEach l g).choices = s.choices := by
  induction l generalizing s with
  | nil => rfl
  | cons a rest ih => exact (ih (g s a)).trans (h s a)

theorem State.forEach_pending {α : Type} (l : List α) (g : State → α → State)
    (h : ∀ s a, (g s a).pending = s.pending) (s : State) : (s.forEach l g).pending = s.pending := by
  induction l generalizing s with
  | nil => rfl
  | cons a rest ih => exact (ih (g s a)).trans (h s a)

/-! ### The operations, in the order of the files that define them -/

@[simp] theorem State.offerEvent_frame (s : State) (e : EventRecord) :
    (s.offerEvent e).now = s.now ∧ (s.offerEvent e).mtu = s.mtu ∧ (s.offerEvent e).csq = s.csq ∧
    (s.offerEvent e).pda = s.pda ∧ (s.offerEvent e).stations = s.stations ∧
    (s.offerEvent e).streams = s.streams ∧ (s.offerEvent e).links = s.links ∧
    (s.offerEvent e).notch = s.notch ∧ (s.offerEvent e).claims = s.claims ∧
    (s.offerEvent e).planner = s.planner ∧ (s.offerEvent e).clc = s.clc ∧
    (s.offerEvent e).choices = s.choices ∧ (s.offerEvent e).pending = s.pending := ⟨rfl, rfl, rfl, rfl, rfl, rfl, rfl, rfl, rfl, rfl, rfl, rfl, rfl⟩

@[simp] theorem State.setRecord_frame (s : State) (l : LinkNo) (k : Link) (r : LinkRecord) :
    (s.setRecord l k r).now = s.now ∧ (s.setRecord l k r).mtu = s.mtu ∧
    (s.setRecord l k r).csq = s.csq ∧ (s.setRecord l k r).pda = s.pda ∧
    (s.setRecord l k r).stations = s.stations ∧ (s.setRecord l k r).streams = s.streams ∧
    (s.setRecord l k r).notch = s.notch ∧ (s.setRecord l k r).claims = s.claims ∧
    (s.setRecord l k r).planner = s.planner ∧ (s.setRecord l k r).clc = s.clc ∧
    (s.setRecord l k r).mgp = s.mgp ∧ (s.setRecord l k r).choices = s.choices ∧
    (s.setRecord l k r).pending = s.pending := ⟨rfl, rfl, rfl, rfl, rfl, rfl, rfl, rfl, rfl, rfl, rfl, rfl, rfl⟩

@[simp] theorem State.holdStation_frame (s : State) (n : StationIx) :
    (s.holdStation n).now = s.now ∧ (s.holdStation n).mtu = s.mtu ∧ (s.holdStation n).csq = s.csq ∧
    (s.holdStation n).pda = s.pda ∧ (s.holdStation n).streams = s.streams ∧
    (s.holdStation n).links = s.links ∧ (s.holdStation n).notch = s.notch ∧
    (s.holdStation n).claims = s.claims ∧ (s.holdStation n).planner = s.planner ∧
    (s.holdStation n).clc = s.clc ∧ (s.holdStation n).mgp = s.mgp ∧
    (s.holdStation n).choices = s.choices ∧ (s.holdStation n).pending = s.pending := ⟨rfl, rfl, rfl, rfl, rfl, rfl, rfl, rfl, rfl, rfl, rfl, rfl, rfl⟩

@[simp] theorem State.dropStation_frame (s : State) (n : StationIx) :
    (s.dropStation n).now = s.now ∧ (s.dropStation n).mtu = s.mtu ∧ (s.dropStation n).csq = s.csq ∧
    (s.dropStation n).pda = s.pda ∧ (s.dropStation n).streams = s.streams ∧
    (s.dropStation n).links = s.links ∧ (s.dropStation n).notch = s.notch ∧
    (s.dropStation n).claims = s.claims ∧ (s.dropStation n).planner = s.planner ∧
    (s.dropStation n).clc = s.clc ∧ (s.dropStation n).mgp = s.mgp ∧
    (s.dropStation n).choices = s.choices ∧ (s.dropStation n).pending = s.pending := ⟨rfl, rfl, rfl, rfl, rfl, rfl, rfl, rfl, rfl, rfl, rfl, rfl, rfl⟩

@[simp] theorem State.holdStream_frame (s : State) (n : StreamNo) :
    (s.holdStream n).now = s.now ∧ (s.holdStream n).mtu = s.mtu ∧ (s.holdStream n).csq = s.csq ∧
    (s.holdStream n).pda = s.pda ∧ (s.holdStream n).stations = s.stations ∧
    (s.holdStream n).links = s.links ∧ (s.holdStream n).notch = s.notch ∧
    (s.holdStream n).claims = s.claims ∧ (s.holdStream n).planner = s.planner ∧
    (s.holdStream n).clc = s.clc ∧ (s.holdStream n).mgp = s.mgp ∧
    (s.holdStream n).choices = s.choices ∧ (s.holdStream n).pending = s.pending := ⟨rfl, rfl, rfl, rfl, rfl, rfl, rfl, rfl, rfl, rfl, rfl, rfl, rfl⟩

@[simp] theorem State.dropStream_frame (s : State) (n : StreamNo) :
    (s.dropStream n).now = s.now ∧ (s.dropStream n).mtu = s.mtu ∧ (s.dropStream n).csq = s.csq ∧
    (s.dropStream n).pda = s.pda ∧ (s.dropStream n).stations = s.stations ∧
    (s.dropStream n).links = s.links ∧ (s.dropStream n).notch = s.notch ∧
    (s.dropStream n).claims = s.claims ∧ (s.dropStream n).planner = s.planner ∧
    (s.dropStream n).clc = s.clc ∧ (s.dropStream n).mgp = s.mgp ∧
    (s.dropStream n).choices = s.choices ∧ (s.dropStream n).pending = s.pending := ⟨rfl, rfl, rfl, rfl, rfl, rfl, rfl, rfl, rfl, rfl, rfl, rfl, rfl⟩

@[simp] theorem State.send_frame (s : State) (f : Feed) (c : Clc) (src : FrameSource) (o : OutFrame) :
    (s.send f c src o).now = s.now ∧ (s.send f c src o).mtu = s.mtu ∧ (s.send f c src o).csq = s.csq ∧
    (s.send f c src o).pda = s.pda ∧ (s.send f c src o).stations = s.stations ∧
    (s.send f c src o).streams = s.streams ∧ (s.send f c src o).links = s.links ∧
    (s.send f c src o).notch = s.notch ∧ (s.send f c src o).claims = s.claims ∧
    (s.send f c src o).planner = s.planner ∧ (s.send f c src o).mgp = s.mgp ∧
    (s.send f c src o).choices = s.choices ∧ (s.send f c src o).pending = s.pending := ⟨rfl, rfl, rfl, rfl, rfl, rfl, rfl, rfl, rfl, rfl, rfl, rfl, rfl⟩

@[simp] theorem State.sendGeneral_frame (s : State) (f : Feed) (c : Clc) :
    (s.sendGeneral f c).now = s.now ∧ (s.sendGeneral f c).mtu = s.mtu ∧
    (s.sendGeneral f c).csq = s.csq ∧ (s.sendGeneral f c).pda = s.pda ∧
    (s.sendGeneral f c).stations = s.stations ∧ (s.sendGeneral f c).streams = s.streams ∧
    (s.sendGeneral f c).links = s.links ∧ (s.sendGeneral f c).notch = s.notch ∧
    (s.sendGeneral f c).claims = s.claims ∧ (s.sendGeneral f c).planner = s.planner ∧
    (s.sendGeneral f c).mgp = s.mgp ∧ (s.sendGeneral f c).choices = s.choices ∧
    (s.sendGeneral f c).pending = s.pending := by
  unfold State.sendGeneral
  split <;> simp

@[simp] theorem State.sendResponse_frame (s : State) (f : Feed) (c : Clc) :
    (s.sendResponse f c).now = s.now ∧ (s.sendResponse f c).mtu = s.mtu ∧
    (s.sendResponse f c).csq = s.csq ∧ (s.sendResponse f c).pda = s.pda ∧
    (s.sendResponse f c).stations = s.stations ∧ (s.sendResponse f c).streams = s.streams ∧
    (s.sendResponse f c).links = s.links ∧ (s.sendResponse f c).notch = s.notch ∧
    (s.sendResponse f c).claims = s.claims ∧ (s.sendResponse f c).planner = s.planner ∧
    (s.sendResponse f c).mgp = s.mgp ∧ (s.sendResponse f c).choices = s.choices ∧
    (s.sendResponse f c).pending = s.pending := by
  unfold State.sendResponse
  split
  · split <;> simp
  · simp

@[simp] theorem State.chooseFrame_frame (s : State) (f : Feed) :
    (s.chooseFrame f).now = s.now ∧ (s.chooseFrame f).mtu = s.mtu ∧ (s.chooseFrame f).csq = s.csq ∧
    (s.chooseFrame f).pda = s.pda ∧ (s.chooseFrame f).stations = s.stations ∧
    (s.chooseFrame f).streams = s.streams ∧ (s.chooseFrame f).links = s.links ∧
    (s.chooseFrame f).notch = s.notch ∧ (s.chooseFrame f).claims = s.claims ∧
    (s.chooseFrame f).planner = s.planner ∧ (s.chooseFrame f).mgp = s.mgp ∧
    (s.chooseFrame f).choices = s.choices ∧ (s.chooseFrame f).pending = s.pending := by
  simp only [State.chooseFrame]
  (repeat' split) <;> simp

@[simp] theorem State.offerTiming_frame (s : State) (f : Feed) (n : TimingNotice) :
    (s.offerTiming f n).now = s.now ∧ (s.offerTiming f n).mtu = s.mtu ∧
    (s.offerTiming f n).csq = s.csq ∧ (s.offerTiming f n).pda = s.pda ∧
    (s.offerTiming f n).stations = s.stations ∧ (s.offerTiming f n).streams = s.streams ∧
    (s.offerTiming f n).links = s.links ∧ (s.offerTiming f n).notch = s.notch ∧
    (s.offerTiming f n).claims = s.claims ∧ (s.offerTiming f n).planner = s.planner ∧
    (s.offerTiming f n).mgp = s.mgp ∧ (s.offerTiming f n).choices = s.choices ∧
    (s.offerTiming f n).pending = s.pending := by
  unfold State.offerTiming
  split <;> simp

@[simp] theorem State.offerGeneral_frame (s : State) (f : Feed) (n : GeneralNotice) :
    (s.offerGeneral f n).now = s.now ∧ (s.offerGeneral f n).mtu = s.mtu ∧
    (s.offerGeneral f n).csq = s.csq ∧ (s.offerGeneral f n).pda = s.pda ∧
    (s.offerGeneral f n).stations = s.stations ∧ (s.offerGeneral f n).streams = s.streams ∧
    (s.offerGeneral f n).links = s.links ∧ (s.offerGeneral f n).notch = s.notch ∧
    (s.offerGeneral f n).claims = s.claims ∧ (s.offerGeneral f n).planner = s.planner ∧
    (s.offerGeneral f n).mgp = s.mgp ∧ (s.offerGeneral f n).choices = s.choices ∧
    (s.offerGeneral f n).pending = s.pending := by
  unfold State.offerGeneral
  split <;> simp

@[simp] theorem State.respond_frame (s : State) (f : Feed) (tag : Byte) (r : Response) :
    (s.respond f tag r).now = s.now ∧ (s.respond f tag r).mtu = s.mtu ∧
    (s.respond f tag r).csq = s.csq ∧ (s.respond f tag r).pda = s.pda ∧
    (s.respond f tag r).stations = s.stations ∧ (s.respond f tag r).streams = s.streams ∧
    (s.respond f tag r).links = s.links ∧ (s.respond f tag r).notch = s.notch ∧
    (s.respond f tag r).claims = s.claims ∧ (s.respond f tag r).planner = s.planner ∧
    (s.respond f tag r).mgp = s.mgp ∧ (s.respond f tag r).choices = s.choices ∧
    (s.respond f tag r).pending = s.pending := by
  simp [State.respond]

@[simp] theorem State.refuse_frame (s : State) (f : Feed) (tag : Byte) (c : Completion) :
    (s.refuse f tag c).now = s.now ∧ (s.refuse f tag c).mtu = s.mtu ∧ (s.refuse f tag c).csq = s.csq ∧
    (s.refuse f tag c).pda = s.pda ∧ (s.refuse f tag c).stations = s.stations ∧
    (s.refuse f tag c).streams = s.streams ∧ (s.refuse f tag c).links = s.links ∧
    (s.refuse f tag c).notch = s.notch ∧ (s.refuse f tag c).claims = s.claims ∧
    (s.refuse f tag c).planner = s.planner ∧ (s.refuse f tag c).mgp = s.mgp ∧
    (s.refuse f tag c).choices = s.choices ∧ (s.refuse f tag c).pending = s.pending := by
  simp [State.refuse]

@[simp] theorem State.heardFrame_frame (s : State) (f : Feed) :
    (s.heardFrame f).now = s.now ∧ (s.heardFrame f).mtu = s.mtu ∧ (s.heardFrame f).csq = s.csq ∧
    (s.heardFrame f).pda = s.pda ∧ (s.heardFrame f).stations = s.stations ∧
    (s.heardFrame f).streams = s.streams ∧ (s.heardFrame f).links = s.links ∧
    (s.heardFrame f).notch = s.notch ∧ (s.heardFrame f).claims = s.claims ∧
    (s.heardFrame f).planner = s.planner ∧ (s.heardFrame f).choices = s.choices ∧
    (s.heardFrame f).pending = s.pending := by
  simp only [State.heardFrame]
  (repeat' split) <;> simp

@[simp] theorem State.markDropped_frame (s : State) (f : Feed) :
    (s.markDropped f).now = s.now ∧ (s.markDropped f).mtu = s.mtu ∧ (s.markDropped f).csq = s.csq ∧
    (s.markDropped f).pda = s.pda ∧ (s.markDropped f).stations = s.stations ∧
    (s.markDropped f).streams = s.streams ∧ (s.markDropped f).links = s.links ∧
    (s.markDropped f).notch = s.notch ∧ (s.markDropped f).claims = s.claims ∧
    (s.markDropped f).planner = s.planner ∧ (s.markDropped f).mgp = s.mgp ∧
    (s.markDropped f).choices = s.choices ∧ (s.markDropped f).pending = s.pending := ⟨rfl, rfl, rfl, rfl, rfl, rfl, rfl, rfl, rfl, rfl, rfl, rfl, rfl⟩

@[simp] theorem State.offerDriver_frame (s : State) (f : Feed) (o : DriverOutcome) (c : ClaimRecord) :
    (s.offerDriver f o c).now = s.now ∧ (s.offerDriver f o c).mtu = s.mtu ∧
    (s.offerDriver f o c).csq = s.csq ∧ (s.offerDriver f o c).pda = s.pda ∧
    (s.offerDriver f o c).stations = s.stations ∧ (s.offerDriver f o c).streams = s.streams ∧
    (s.offerDriver f o c).links = s.links ∧ (s.offerDriver f o c).notch = s.notch ∧
    (s.offerDriver f o c).claims = s.claims ∧ (s.offerDriver f o c).planner = s.planner ∧
    (s.offerDriver f o c).mgp = s.mgp ∧ (s.offerDriver f o c).choices = s.choices ∧
    (s.offerDriver f o c).pending = s.pending := by
  simp [State.offerDriver]

@[simp] theorem State.grantDriver_frame (s : State) (f : Feed) (c : ClaimRecord) :
    (s.grantDriver f c).now = s.now ∧ (s.grantDriver f c).mtu = s.mtu ∧
    (s.grantDriver f c).csq = s.csq ∧ (s.grantDriver f c).stations = s.stations ∧
    (s.grantDriver f c).streams = s.streams ∧ (s.grantDriver f c).links = s.links ∧
    (s.grantDriver f c).notch = s.notch ∧ (s.grantDriver f c).claims = s.claims ∧
    (s.grantDriver f c).planner = s.planner ∧ (s.grantDriver f c).mgp = s.mgp ∧
    (s.grantDriver f c).choices = s.choices ∧ (s.grantDriver f c).pending = s.pending := by
  simp [State.grantDriver]

@[simp] theorem State.serveAtFree_frame (s : State) (f : Feed) (c : ClaimRecord) :
    (s.serveAtFree f c).now = s.now ∧ (s.serveAtFree f c).mtu = s.mtu ∧
    (s.serveAtFree f c).csq = s.csq ∧ (s.serveAtFree f c).stations = s.stations ∧
    (s.serveAtFree f c).streams = s.streams ∧ (s.serveAtFree f c).links = s.links ∧
    (s.serveAtFree f c).notch = s.notch ∧ (s.serveAtFree f c).claims = s.claims ∧
    (s.serveAtFree f c).planner = s.planner ∧ (s.serveAtFree f c).mgp = s.mgp ∧
    (s.serveAtFree f c).choices = s.choices ∧ (s.serveAtFree f c).pending = s.pending := by
  unfold State.serveAtFree
  split <;> simp

@[simp] theorem State.waitForDriver_frame (s : State) (f : Feed) (c : ClaimRecord) :
    (s.waitForDriver f c).now = s.now ∧ (s.waitForDriver f c).mtu = s.mtu ∧
    (s.waitForDriver f c).csq = s.csq ∧ (s.waitForDriver f c).stations = s.stations ∧
    (s.waitForDriver f c).streams = s.streams ∧ (s.waitForDriver f c).links = s.links ∧
    (s.waitForDriver f c).notch = s.notch ∧ (s.waitForDriver f c).claims = s.claims ∧
    (s.waitForDriver f c).planner = s.planner ∧ (s.waitForDriver f c).choices = s.choices ∧
    (s.waitForDriver f c).pending = s.pending := by
  unfold State.waitForDriver
  split <;> simp

@[simp] theorem State.preempt_frame (s : State) (h : Holder) (f : Feed) (c : ClaimRecord) :
    (s.preempt h f c).now = s.now ∧ (s.preempt h f c).mtu = s.mtu ∧ (s.preempt h f c).csq = s.csq ∧
    (s.preempt h f c).stations = s.stations ∧ (s.preempt h f c).streams = s.streams ∧
    (s.preempt h f c).links = s.links ∧ (s.preempt h f c).notch = s.notch ∧
    (s.preempt h f c).claims = s.claims ∧ (s.preempt h f c).planner = s.planner ∧
    (s.preempt h f c).mgp = s.mgp ∧ (s.preempt h f c).choices = s.choices ∧
    (s.preempt h f c).pending = s.pending := by
  unfold State.preempt
  split <;> simp

@[simp] theorem State.claimArrives_frame (s : State) (f : Feed) (c : ClaimRecord) :
    (s.claimArrives f c).now = s.now ∧ (s.claimArrives f c).mtu = s.mtu ∧
    (s.claimArrives f c).csq = s.csq ∧ (s.claimArrives f c).stations = s.stations ∧
    (s.claimArrives f c).streams = s.streams ∧ (s.claimArrives f c).links = s.links ∧
    (s.claimArrives f c).notch = s.notch ∧ (s.claimArrives f c).claims = s.claims ∧
    (s.claimArrives f c).planner = s.planner ∧ (s.claimArrives f c).choices = s.choices ∧
    (s.claimArrives f c).pending = s.pending := by
  unfold State.claimArrives
  (repeat' split) <;> simp

@[simp] theorem State.judgeHead_frame (s : State) :
    s.judgeHead.now = s.now ∧ s.judgeHead.mtu = s.mtu ∧ s.judgeHead.csq = s.csq ∧
    s.judgeHead.stations = s.stations ∧ s.judgeHead.streams = s.streams ∧ s.judgeHead.links = s.links ∧
    s.judgeHead.notch = s.notch ∧ s.judgeHead.claims = s.claims ∧ s.judgeHead.planner = s.planner ∧
    s.judgeHead.mgp = s.mgp ∧ s.judgeHead.choices = s.choices ∧ s.judgeHead.pending = s.pending := by
  unfold State.judgeHead
  (repeat' split) <;> simp

@[simp] theorem State.serveList_frame (s : State) :
    s.serveList.now = s.now ∧ s.serveList.mtu = s.mtu ∧ s.serveList.csq = s.csq ∧
    s.serveList.stations = s.stations ∧ s.serveList.streams = s.streams ∧ s.serveList.links = s.links ∧
    s.serveList.notch = s.notch ∧ s.serveList.claims = s.claims ∧ s.serveList.planner = s.planner ∧
    s.serveList.mgp = s.mgp ∧ s.serveList.choices = s.choices ∧ s.serveList.pending = s.pending := by
  unfold State.serveList
  split
  · split <;> simp
  · simp

@[simp] theorem State.releaseDriver_frame (s : State) (f : Feed) :
    (s.releaseDriver f).now = s.now ∧ (s.releaseDriver f).mtu = s.mtu ∧
    (s.releaseDriver f).csq = s.csq ∧ (s.releaseDriver f).stations = s.stations ∧
    (s.releaseDriver f).streams = s.streams ∧ (s.releaseDriver f).links = s.links ∧
    (s.releaseDriver f).notch = s.notch ∧ (s.releaseDriver f).claims = s.claims ∧
    (s.releaseDriver f).planner = s.planner ∧ (s.releaseDriver f).mgp = s.mgp ∧
    (s.releaseDriver f).choices = s.choices ∧ (s.releaseDriver f).pending = s.pending := by
  unfold State.releaseDriver
  split
  · simp
  · split <;> simp

@[simp] theorem State.replaceClaim_frame (s : State) (f : Feed) (cls : DriverClass) (w : SlotNo) (start : Nat) :
    (s.replaceClaim f cls w start).now = s.now ∧ (s.replaceClaim f cls w start).mtu = s.mtu ∧
    (s.replaceClaim f cls w start).csq = s.csq ∧ (s.replaceClaim f cls w start).stations = s.stations ∧
    (s.replaceClaim f cls w start).streams = s.streams ∧
    (s.replaceClaim f cls w start).links = s.links ∧ (s.replaceClaim f cls w start).notch = s.notch ∧
    (s.replaceClaim f cls w start).claims = s.claims ∧
    (s.replaceClaim f cls w start).planner = s.planner ∧
    (s.replaceClaim f cls w start).choices = s.choices ∧
    (s.replaceClaim f cls w start).pending = s.pending := by
  unfold State.replaceClaim
  split
  · simp
  · split <;> simp

@[simp] theorem State.endSwitch_frame (s : State) :
    s.endSwitch.now = s.now ∧ s.endSwitch.mtu = s.mtu ∧ s.endSwitch.csq = s.csq ∧
    s.endSwitch.stations = s.stations ∧ s.endSwitch.streams = s.streams ∧ s.endSwitch.links = s.links ∧
    s.endSwitch.notch = s.notch ∧ s.endSwitch.claims = s.claims ∧ s.endSwitch.planner = s.planner ∧
    s.endSwitch.mgp = s.mgp ∧ s.endSwitch.choices = s.choices ∧ s.endSwitch.pending = s.pending := by
  unfold State.endSwitch
  split <;> simp

@[simp] theorem State.offerPlan_frame (s : State) (l : LinkNo) :
    (s.offerPlan l).now = s.now ∧ (s.offerPlan l).mtu = s.mtu ∧ (s.offerPlan l).csq = s.csq ∧
    (s.offerPlan l).pda = s.pda ∧ (s.offerPlan l).stations = s.stations ∧
    (s.offerPlan l).streams = s.streams ∧ (s.offerPlan l).links = s.links ∧
    (s.offerPlan l).notch = s.notch ∧ (s.offerPlan l).claims = s.claims ∧ (s.offerPlan l).clc = s.clc ∧
    (s.offerPlan l).mgp = s.mgp ∧ (s.offerPlan l).choices = s.choices ∧
    (s.offerPlan l).pending = s.pending := ⟨rfl, rfl, rfl, rfl, rfl, rfl, rfl, rfl, rfl, rfl, rfl, rfl, rfl⟩

@[simp] theorem State.offerUrgent_frame (s : State) (l : LinkNo) (c : Cause) :
    (s.offerUrgent l c).now = s.now ∧ (s.offerUrgent l c).mtu = s.mtu ∧
    (s.offerUrgent l c).csq = s.csq ∧ (s.offerUrgent l c).pda = s.pda ∧
    (s.offerUrgent l c).stations = s.stations ∧ (s.offerUrgent l c).streams = s.streams ∧
    (s.offerUrgent l c).links = s.links ∧ (s.offerUrgent l c).notch = s.notch ∧
    (s.offerUrgent l c).claims = s.claims ∧ (s.offerUrgent l c).clc = s.clc ∧
    (s.offerUrgent l c).mgp = s.mgp ∧ (s.offerUrgent l c).choices = s.choices ∧
    (s.offerUrgent l c).pending = s.pending := ⟨rfl, rfl, rfl, rfl, rfl, rfl, rfl, rfl, rfl, rfl, rfl, rfl, rfl⟩

@[simp] theorem State.publish_frame (s : State) (l : LinkNo) (k : Link) (z : List ZoneMap) (g : Grade) (c : Cause) :
    (s.publish l k z g c).now = s.now ∧ (s.publish l k z g c).mtu = s.mtu ∧
    (s.publish l k z g c).csq = s.csq ∧ (s.publish l k z g c).pda = s.pda ∧
    (s.publish l k z g c).stations = s.stations ∧ (s.publish l k z g c).streams = s.streams ∧
    (s.publish l k z g c).notch = s.notch ∧ (s.publish l k z g c).claims = s.claims ∧
    (s.publish l k z g c).planner = s.planner ∧ (s.publish l k z g c).mgp = s.mgp ∧
    (s.publish l k z g c).choices = s.choices ∧ (s.publish l k z g c).pending = s.pending := by
  simp [State.publish]

@[simp] theorem State.completePlan_frame (s : State) (job : PlanJob) (z : List ZoneMap) :
    (s.completePlan job z).now = s.now ∧ (s.completePlan job z).mtu = s.mtu ∧
    (s.completePlan job z).csq = s.csq ∧ (s.completePlan job z).pda = s.pda ∧
    (s.completePlan job z).stations = s.stations ∧ (s.completePlan job z).streams = s.streams ∧
    (s.completePlan job z).notch = s.notch ∧ (s.completePlan job z).claims = s.claims ∧
    (s.completePlan job z).mgp = s.mgp ∧ (s.completePlan job z).choices = s.choices ∧
    (s.completePlan job z).pending = s.pending := by
  unfold State.completePlan
  split
  · split <;> simp
  · simp

@[simp] theorem State.releaseClaim_frame (s : State) (f : Feed) :
    (s.releaseClaim f).now = s.now ∧ (s.releaseClaim f).mtu = s.mtu ∧ (s.releaseClaim f).csq = s.csq ∧
    (s.releaseClaim f).pda = s.pda ∧ (s.releaseClaim f).stations = s.stations ∧
    (s.releaseClaim f).streams = s.streams ∧ (s.releaseClaim f).notch = s.notch ∧
    (s.releaseClaim f).mgp = s.mgp ∧ (s.releaseClaim f).choices = s.choices ∧
    (s.releaseClaim f).pending = s.pending := by
  simp only [State.releaseClaim]
  (repeat' split) <;> simp

@[simp] theorem State.takePlan_frame (s : State) (e : PlanEntry) (rest : Planner) :
    (s.takePlan e rest).now = s.now ∧ (s.takePlan e rest).mtu = s.mtu ∧
    (s.takePlan e rest).csq = s.csq ∧ (s.takePlan e rest).pda = s.pda ∧
    (s.takePlan e rest).stations = s.stations ∧ (s.takePlan e rest).streams = s.streams ∧
    (s.takePlan e rest).notch = s.notch ∧ (s.takePlan e rest).claims = s.claims ∧
    (s.takePlan e rest).clc = s.clc ∧ (s.takePlan e rest).mgp = s.mgp ∧
    (s.takePlan e rest).choices = s.choices ∧ (s.takePlan e rest).pending = s.pending := by
  unfold State.takePlan
  split <;> simp

@[simp] theorem State.setBuffer_frame (s : State) (r : BufRef) (x : Buffer) :
    (s.setBuffer r x).now = s.now ∧ (s.setBuffer r x).mtu = s.mtu ∧ (s.setBuffer r x).csq = s.csq ∧
    (s.setBuffer r x).pda = s.pda ∧ (s.setBuffer r x).stations = s.stations ∧
    (s.setBuffer r x).streams = s.streams ∧ (s.setBuffer r x).links = s.links ∧
    (s.setBuffer r x).notch = s.notch ∧ (s.setBuffer r x).claims = s.claims ∧
    (s.setBuffer r x).planner = s.planner ∧ (s.setBuffer r x).mgp = s.mgp ∧
    (s.setBuffer r x).choices = s.choices ∧ (s.setBuffer r x).pending = s.pending := ⟨rfl, rfl, rfl, rfl, rfl, rfl, rfl, rfl, rfl, rfl, rfl, rfl, rfl⟩

@[simp] theorem State.foldReport_frame (s : State) (r : Report) (k : Link) :
    (s.foldReport r k).now = s.now ∧ (s.foldReport r k).mtu = s.mtu ∧ (s.foldReport r k).csq = s.csq ∧
    (s.foldReport r k).pda = s.pda ∧ (s.foldReport r k).stations = s.stations ∧
    (s.foldReport r k).streams = s.streams ∧ (s.foldReport r k).notch = s.notch ∧
    (s.foldReport r k).claims = s.claims ∧ (s.foldReport r k).clc = s.clc ∧
    (s.foldReport r k).mgp = s.mgp ∧ (s.foldReport r k).choices = s.choices ∧
    (s.foldReport r k).pending = s.pending := by
  simp only [State.foldReport]
  (repeat' split) <;> simp

@[simp] theorem State.endFold_frame (s : State) (r : Report) :
    (s.endFold r).now = s.now ∧ (s.endFold r).mtu = s.mtu ∧ (s.endFold r).csq = s.csq ∧
    (s.endFold r).pda = s.pda ∧ (s.endFold r).stations = s.stations ∧
    (s.endFold r).streams = s.streams ∧ (s.endFold r).notch = s.notch ∧
    (s.endFold r).claims = s.claims ∧ (s.endFold r).clc = s.clc ∧ (s.endFold r).mgp = s.mgp ∧
    (s.endFold r).choices = s.choices ∧ (s.endFold r).pending = s.pending := by
  unfold State.endFold
  split
  · split <;> simp
  · simp

@[simp] theorem State.eachStream_frame (s : State) (g : Stream → Stream) :
    (s.eachStream g).now = s.now ∧ (s.eachStream g).mtu = s.mtu ∧ (s.eachStream g).csq = s.csq ∧
    (s.eachStream g).pda = s.pda ∧ (s.eachStream g).stations = s.stations ∧
    (s.eachStream g).links = s.links ∧ (s.eachStream g).notch = s.notch ∧
    (s.eachStream g).claims = s.claims ∧ (s.eachStream g).planner = s.planner ∧
    (s.eachStream g).clc = s.clc ∧ (s.eachStream g).mgp = s.mgp ∧
    (s.eachStream g).choices = s.choices ∧ (s.eachStream g).pending = s.pending := by
  simp [State.eachStream]

@[simp] theorem State.streamsFollow_frame (s : State) (l : LinkNo) (old new : Grade) :
    (s.streamsFollow l old new).now = s.now ∧ (s.streamsFollow l old new).mtu = s.mtu ∧
    (s.streamsFollow l old new).csq = s.csq ∧ (s.streamsFollow l old new).pda = s.pda ∧
    (s.streamsFollow l old new).stations = s.stations ∧ (s.streamsFollow l old new).links = s.links ∧
    (s.streamsFollow l old new).notch = s.notch ∧ (s.streamsFollow l old new).claims = s.claims ∧
    (s.streamsFollow l old new).planner = s.planner ∧ (s.streamsFollow l old new).clc = s.clc ∧
    (s.streamsFollow l old new).mgp = s.mgp ∧ (s.streamsFollow l old new).choices = s.choices ∧
    (s.streamsFollow l old new).pending = s.pending := by
  unfold State.streamsFollow
  split
  · simp
  · split <;> simp

@[simp] theorem State.announceGrade_frame (s : State) (l : LinkNo) (old : LinkRecord) (t : Trigger) (z : Option Nat) :
    (s.announceGrade l old t z).now = s.now ∧ (s.announceGrade l old t z).mtu = s.mtu ∧
    (s.announceGrade l old t z).csq = s.csq ∧ (s.announceGrade l old t z).pda = s.pda ∧
    (s.announceGrade l old t z).stations = s.stations ∧ (s.announceGrade l old t z).links = s.links ∧
    (s.announceGrade l old t z).notch = s.notch ∧ (s.announceGrade l old t z).claims = s.claims ∧
    (s.announceGrade l old t z).choices = s.choices ∧ (s.announceGrade l old t z).pending = s.pending := by
  simp [State.announceGrade]

@[simp] theorem State.evaluate_frame (s : State) (l : LinkNo) (k : Link) (t : Trigger) (z : Option Nat) :
    (s.evaluate l k t z).now = s.now ∧ (s.evaluate l k t z).mtu = s.mtu ∧
    (s.evaluate l k t z).csq = s.csq ∧ (s.evaluate l k t z).pda = s.pda ∧
    (s.evaluate l k t z).stations = s.stations ∧ (s.evaluate l k t z).notch = s.notch ∧
    (s.evaluate l k t z).claims = s.claims ∧ (s.evaluate l k t z).choices = s.choices ∧
    (s.evaluate l k t z).pending = s.pending := by
  unfold State.evaluate
  split <;> simp

@[simp] theorem State.tallyReport_frame (s : State) (l : LinkNo) (k : Link) (zone ok failed : Nat) :
    (s.tallyReport l k zone ok failed).now = s.now ∧ (s.tallyReport l k zone ok failed).mtu = s.mtu ∧
    (s.tallyReport l k zone ok failed).csq = s.csq ∧ (s.tallyReport l k zone ok failed).pda = s.pda ∧
    (s.tallyReport l k zone ok failed).stations = s.stations ∧
    (s.tallyReport l k zone ok failed).notch = s.notch ∧
    (s.tallyReport l k zone ok failed).claims = s.claims ∧
    (s.tallyReport l k zone ok failed).choices = s.choices ∧
    (s.tallyReport l k zone ok failed).pending = s.pending := by
  simp only [State.tallyReport]
  (repeat' split) <;> simp

@[simp] theorem State.deliver_frame (s : State) (f : Feed) (tag link zone : Byte) (ok failed : Word) (flags : Byte) :
    (s.deliver f tag link zone ok failed flags).now = s.now ∧
    (s.deliver f tag link zone ok failed flags).mtu = s.mtu ∧
    (s.deliver f tag link zone ok failed flags).csq = s.csq ∧
    (s.deliver f tag link zone ok failed flags).pda = s.pda ∧
    (s.deliver f tag link zone ok failed flags).stations = s.stations ∧
    (s.deliver f tag link zone ok failed flags).notch = s.notch ∧
    (s.deliver f tag link zone ok failed flags).claims = s.claims ∧
    (s.deliver f tag link zone ok failed flags).choices = s.choices ∧
    (s.deliver f tag link zone ok failed flags).pending = s.pending := by
  unfold State.deliver
  (repeat' split) <;> simp

@[simp] theorem State.idleLink_frame (s : State) (l : LinkNo) :
    (s.idleLink l).now = s.now ∧ (s.idleLink l).mtu = s.mtu ∧ (s.idleLink l).csq = s.csq ∧
    (s.idleLink l).pda = s.pda ∧ (s.idleLink l).stations = s.stations ∧
    (s.idleLink l).notch = s.notch ∧ (s.idleLink l).claims = s.claims ∧
    (s.idleLink l).choices = s.choices ∧ (s.idleLink l).pending = s.pending := by
  simp only [State.idleLink]
  (repeat' split) <;> simp

@[simp] theorem State.superviseBoundary_frame (s : State) (f : Feed) :
    (s.superviseBoundary f).now = s.now ∧ (s.superviseBoundary f).mtu = s.mtu ∧
    (s.superviseBoundary f).csq = s.csq ∧ (s.superviseBoundary f).pda = s.pda ∧
    (s.superviseBoundary f).stations = s.stations ∧ (s.superviseBoundary f).notch = s.notch ∧
    (s.superviseBoundary f).claims = s.claims ∧ (s.superviseBoundary f).choices = s.choices ∧
    (s.superviseBoundary f).pending = s.pending := by
  unfold State.superviseBoundary
  refine ⟨State.forEach_now _ _ ?_ s, State.forEach_mtu _ _ ?_ s, State.forEach_csq _ _ ?_ s, State.forEach_pda _ _ ?_ s, State.forEach_stations _ _ ?_ s, State.forEach_notch _ _ ?_ s, State.forEach_claims _ _ ?_ s, State.forEach_choices _ _ ?_ s, State.forEach_pending _ _ ?_ s⟩ <;> intros <;> simp

@[simp] theorem State.eachClaim_frame (s : State) (g : FetchClaim → FetchClaim) :
    (s.eachClaim g).now = s.now ∧ (s.eachClaim g).mtu = s.mtu ∧ (s.eachClaim g).csq = s.csq ∧
    (s.eachClaim g).pda = s.pda ∧ (s.eachClaim g).stations = s.stations ∧
    (s.eachClaim g).streams = s.streams ∧ (s.eachClaim g).links = s.links ∧
    (s.eachClaim g).notch = s.notch ∧ (s.eachClaim g).planner = s.planner ∧
    (s.eachClaim g).clc = s.clc ∧ (s.eachClaim g).mgp = s.mgp ∧ (s.eachClaim g).choices = s.choices ∧
    (s.eachClaim g).pending = s.pending := ⟨rfl, rfl, rfl, rfl, rfl, rfl, rfl, rfl, rfl, rfl, rfl, rfl, rfl⟩

@[simp] theorem State.switchLink_frame (s : State) (l : LinkNo) (k : Link) (n : NextSet) :
    (s.switchLink l k n).now = s.now ∧ (s.switchLink l k n).mtu = s.mtu ∧
    (s.switchLink l k n).csq = s.csq ∧ (s.switchLink l k n).pda = s.pda ∧
    (s.switchLink l k n).stations = s.stations ∧ (s.switchLink l k n).streams = s.streams ∧
    (s.switchLink l k n).notch = s.notch ∧ (s.switchLink l k n).planner = s.planner ∧
    (s.switchLink l k n).mgp = s.mgp ∧ (s.switchLink l k n).choices = s.choices ∧
    (s.switchLink l k n).pending = s.pending := by
  simp [State.switchLink]

@[simp] theorem State.countLink_frame (s : State) (l : LinkNo) :
    (s.countLink l).now = s.now ∧ (s.countLink l).mtu = s.mtu ∧ (s.countLink l).csq = s.csq ∧
    (s.countLink l).pda = s.pda ∧ (s.countLink l).stations = s.stations ∧
    (s.countLink l).streams = s.streams ∧ (s.countLink l).notch = s.notch ∧
    (s.countLink l).planner = s.planner ∧ (s.countLink l).mgp = s.mgp ∧
    (s.countLink l).choices = s.choices ∧ (s.countLink l).pending = s.pending := by
  unfold State.countLink
  (repeat' split) <;> simp

@[simp] theorem State.storeBoundary_frame (s : State) (f : Feed) :
    (s.storeBoundary f).now = s.now ∧ (s.storeBoundary f).mtu = s.mtu ∧
    (s.storeBoundary f).csq = s.csq ∧ (s.storeBoundary f).pda = s.pda ∧
    (s.storeBoundary f).stations = s.stations ∧ (s.storeBoundary f).streams = s.streams ∧
    (s.storeBoundary f).notch = s.notch ∧ (s.storeBoundary f).planner = s.planner ∧
    (s.storeBoundary f).mgp = s.mgp ∧ (s.storeBoundary f).choices = s.choices ∧
    (s.storeBoundary f).pending = s.pending := by
  unfold State.storeBoundary
  refine ⟨State.forEach_now _ _ ?_ s, State.forEach_mtu _ _ ?_ s, State.forEach_csq _ _ ?_ s, State.forEach_pda _ _ ?_ s, State.forEach_stations _ _ ?_ s, State.forEach_streams _ _ ?_ s, State.forEach_notch _ _ ?_ s, State.forEach_planner _ _ ?_ s, State.forEach_mgp _ _ ?_ s, State.forEach_choices _ _ ?_ s, State.forEach_pending _ _ ?_ s⟩ <;> intros <;> simp

@[simp] theorem State.fetch_frame (s : State) (f : Feed) (tag link version zone : Byte) :
    (s.fetch f tag link version zone).now = s.now ∧ (s.fetch f tag link version zone).mtu = s.mtu ∧
    (s.fetch f tag link version zone).csq = s.csq ∧ (s.fetch f tag link version zone).pda = s.pda ∧
    (s.fetch f tag link version zone).stations = s.stations ∧
    (s.fetch f tag link version zone).streams = s.streams ∧
    (s.fetch f tag link version zone).links = s.links ∧
    (s.fetch f tag link version zone).notch = s.notch ∧
    (s.fetch f tag link version zone).planner = s.planner ∧
    (s.fetch f tag link version zone).mgp = s.mgp ∧
    (s.fetch f tag link version zone).choices = s.choices ∧
    (s.fetch f tag link version zone).pending = s.pending := by
  unfold State.fetch
  (repeat' split) <;> simp

@[simp] theorem State.freeLink_frame (s : State) (l : LinkNo) :
    (s.freeLink l).now = s.now ∧ (s.freeLink l).mtu = s.mtu ∧ (s.freeLink l).csq = s.csq ∧
    (s.freeLink l).pda = s.pda ∧ (s.freeLink l).stations = s.stations ∧
    (s.freeLink l).streams = s.streams ∧ (s.freeLink l).notch = s.notch ∧
    (s.freeLink l).planner = s.planner ∧ (s.freeLink l).clc = s.clc ∧ (s.freeLink l).mgp = s.mgp ∧
    (s.freeLink l).choices = s.choices ∧ (s.freeLink l).pending = s.pending := by
  unfold State.freeLink
  split <;> simp

@[simp] theorem State.holdWindow_frame (s : State) (w : Window) :
    (s.holdWindow w).now = s.now ∧ (s.holdWindow w).mtu = s.mtu ∧ (s.holdWindow w).csq = s.csq ∧
    (s.holdWindow w).pda = s.pda ∧ (s.holdWindow w).links = s.links ∧
    (s.holdWindow w).notch = s.notch ∧ (s.holdWindow w).claims = s.claims ∧
    (s.holdWindow w).planner = s.planner ∧ (s.holdWindow w).clc = s.clc ∧
    (s.holdWindow w).mgp = s.mgp ∧ (s.holdWindow w).choices = s.choices ∧
    (s.holdWindow w).pending = s.pending := by
  unfold State.holdWindow
  split <;> simp

@[simp] theorem State.dropWindow_frame (s : State) (w : Window) :
    (s.dropWindow w).now = s.now ∧ (s.dropWindow w).mtu = s.mtu ∧ (s.dropWindow w).csq = s.csq ∧
    (s.dropWindow w).pda = s.pda ∧ (s.dropWindow w).links = s.links ∧
    (s.dropWindow w).notch = s.notch ∧ (s.dropWindow w).claims = s.claims ∧
    (s.dropWindow w).planner = s.planner ∧ (s.dropWindow w).clc = s.clc ∧
    (s.dropWindow w).mgp = s.mgp ∧ (s.dropWindow w).choices = s.choices ∧
    (s.dropWindow w).pending = s.pending := by
  unfold State.dropWindow
  split <;> simp

@[simp] theorem State.countBank_frame (s : State) (b : Bank) :
    (s.countBank b).now = s.now ∧ (s.countBank b).mtu = s.mtu ∧ (s.countBank b).csq = s.csq ∧
    (s.countBank b).pda = s.pda ∧ (s.countBank b).links = s.links ∧ (s.countBank b).notch = s.notch ∧
    (s.countBank b).claims = s.claims ∧ (s.countBank b).planner = s.planner ∧
    (s.countBank b).clc = s.clc ∧ (s.countBank b).mgp = s.mgp ∧ (s.countBank b).choices = s.choices ∧
    (s.countBank b).pending = s.pending := by
  unfold State.countBank
  refine ⟨State.forEach_now _ _ ?_ s, State.forEach_mtu _ _ ?_ s, State.forEach_csq _ _ ?_ s, State.forEach_pda _ _ ?_ s, State.forEach_links _ _ ?_ s, State.forEach_notch _ _ ?_ s, State.forEach_claims _ _ ?_ s, State.forEach_planner _ _ ?_ s, State.forEach_clc _ _ ?_ s, State.forEach_mgp _ _ ?_ s, State.forEach_choices _ _ ?_ s, State.forEach_pending _ _ ?_ s⟩ <;> intros <;> simp

@[simp] theorem State.releaseBank_frame (s : State) (b : Bank) :
    (s.releaseBank b).now = s.now ∧ (s.releaseBank b).mtu = s.mtu ∧ (s.releaseBank b).csq = s.csq ∧
    (s.releaseBank b).pda = s.pda ∧ (s.releaseBank b).links = s.links ∧
    (s.releaseBank b).notch = s.notch ∧ (s.releaseBank b).claims = s.claims ∧
    (s.releaseBank b).planner = s.planner ∧ (s.releaseBank b).clc = s.clc ∧
    (s.releaseBank b).mgp = s.mgp ∧ (s.releaseBank b).choices = s.choices ∧
    (s.releaseBank b).pending = s.pending := by
  unfold State.releaseBank
  refine ⟨State.forEach_now _ _ ?_ s, State.forEach_mtu _ _ ?_ s, State.forEach_csq _ _ ?_ s, State.forEach_pda _ _ ?_ s, State.forEach_links _ _ ?_ s, State.forEach_notch _ _ ?_ s, State.forEach_claims _ _ ?_ s, State.forEach_planner _ _ ?_ s, State.forEach_clc _ _ ?_ s, State.forEach_mgp _ _ ?_ s, State.forEach_choices _ _ ?_ s, State.forEach_pending _ _ ?_ s⟩ <;> intros <;> simp

@[simp] theorem State.cancelPending_frame (s : State) (f : Feed) :
    (s.cancelPending f).now = s.now ∧ (s.cancelPending f).mtu = s.mtu ∧
    (s.cancelPending f).pda = s.pda ∧ (s.cancelPending f).links = s.links ∧
    (s.cancelPending f).notch = s.notch ∧ (s.cancelPending f).claims = s.claims ∧
    (s.cancelPending f).planner = s.planner ∧ (s.cancelPending f).clc = s.clc ∧
    (s.cancelPending f).mgp = s.mgp ∧ (s.cancelPending f).choices = s.choices ∧
    (s.cancelPending f).pending = s.pending := by
  unfold State.cancelPending
  split <;> simp

@[simp] theorem State.exchangeRoles_frame (s : State) (f : Feed) :
    (s.exchangeRoles f).now = s.now ∧ (s.exchangeRoles f).mtu = s.mtu ∧
    (s.exchangeRoles f).pda = s.pda ∧ (s.exchangeRoles f).links = s.links ∧
    (s.exchangeRoles f).notch = s.notch ∧ (s.exchangeRoles f).claims = s.claims ∧
    (s.exchangeRoles f).planner = s.planner ∧ (s.exchangeRoles f).clc = s.clc ∧
    (s.exchangeRoles f).choices = s.choices ∧ (s.exchangeRoles f).pending = s.pending := by
  simp [State.exchangeRoles]

@[simp] theorem State.offerFeedState_frame (s : State) (f : Feed) :
    (s.offerFeedState f).now = s.now ∧ (s.offerFeedState f).mtu = s.mtu ∧
    (s.offerFeedState f).csq = s.csq ∧ (s.offerFeedState f).pda = s.pda ∧
    (s.offerFeedState f).stations = s.stations ∧ (s.offerFeedState f).streams = s.streams ∧
    (s.offerFeedState f).links = s.links ∧ (s.offerFeedState f).notch = s.notch ∧
    (s.offerFeedState f).claims = s.claims ∧ (s.offerFeedState f).planner = s.planner ∧
    (s.offerFeedState f).mgp = s.mgp ∧ (s.offerFeedState f).choices = s.choices ∧
    (s.offerFeedState f).pending = s.pending := by
  simp [State.offerFeedState]

@[simp] theorem State.enterSeq_frame (s : State) (f : Feed) (st : SeqState) :
    (s.enterSeq f st).now = s.now ∧ (s.enterSeq f st).mtu = s.mtu ∧ (s.enterSeq f st).pda = s.pda ∧
    (s.enterSeq f st).stations = s.stations ∧ (s.enterSeq f st).streams = s.streams ∧
    (s.enterSeq f st).links = s.links ∧ (s.enterSeq f st).notch = s.notch ∧
    (s.enterSeq f st).claims = s.claims ∧ (s.enterSeq f st).planner = s.planner ∧
    (s.enterSeq f st).mgp = s.mgp ∧ (s.enterSeq f st).choices = s.choices ∧
    (s.enterSeq f st).pending = s.pending := by
  simp [State.enterSeq]

@[simp] theorem State.offerWindow_frame (s : State) (f : Feed) (i : SlotNo) (d : Nat) (sk : Bool) :
    (s.offerWindow f i d sk).now = s.now ∧ (s.offerWindow f i d sk).mtu = s.mtu ∧
    (s.offerWindow f i d sk).csq = s.csq ∧ (s.offerWindow f i d sk).pda = s.pda ∧
    (s.offerWindow f i d sk).stations = s.stations ∧ (s.offerWindow f i d sk).streams = s.streams ∧
    (s.offerWindow f i d sk).links = s.links ∧ (s.offerWindow f i d sk).notch = s.notch ∧
    (s.offerWindow f i d sk).claims = s.claims ∧ (s.offerWindow f i d sk).planner = s.planner ∧
    (s.offerWindow f i d sk).mgp = s.mgp ∧ (s.offerWindow f i d sk).choices = s.choices ∧
    (s.offerWindow f i d sk).pending = s.pending := by
  simp [State.offerWindow]

@[simp] theorem State.handClaim_frame (s : State) (f : Feed) (cls : ClaimClass) (i : SlotNo) :
    (s.handClaim f cls i).now = s.now ∧ (s.handClaim f cls i).mtu = s.mtu ∧
    (s.handClaim f cls i).stations = s.stations ∧ (s.handClaim f cls i).streams = s.streams ∧
    (s.handClaim f cls i).links = s.links ∧ (s.handClaim f cls i).notch = s.notch ∧
    (s.handClaim f cls i).claims = s.claims ∧ (s.handClaim f cls i).planner = s.planner ∧
    (s.handClaim f cls i).choices = s.choices ∧ (s.handClaim f cls i).pending = s.pending := by
  simp only [State.handClaim]
  (repeat' split) <;> simp

@[simp] theorem State.withdraw_frame (s : State) (f : Feed) :
    (s.withdraw f).now = s.now ∧ (s.withdraw f).mtu = s.mtu ∧ (s.withdraw f).stations = s.stations ∧
    (s.withdraw f).streams = s.streams ∧ (s.withdraw f).links = s.links ∧
    (s.withdraw f).notch = s.notch ∧ (s.withdraw f).claims = s.claims ∧
    (s.withdraw f).planner = s.planner ∧ (s.withdraw f).mgp = s.mgp ∧
    (s.withdraw f).choices = s.choices ∧ (s.withdraw f).pending = s.pending := by
  unfold State.withdraw
  split <;> simp

@[simp] theorem State.startWindow_frame (s : State) (f : Feed) (i : SlotNo) :
    (s.startWindow f i).now = s.now ∧ (s.startWindow f i).mtu = s.mtu ∧
    (s.startWindow f i).stations = s.stations ∧ (s.startWindow f i).streams = s.streams ∧
    (s.startWindow f i).links = s.links ∧ (s.startWindow f i).notch = s.notch ∧
    (s.startWindow f i).claims = s.claims ∧ (s.startWindow f i).planner = s.planner ∧
    (s.startWindow f i).choices = s.choices ∧ (s.startWindow f i).pending = s.pending := by
  simp [State.startWindow]

@[simp] theorem State.skipUnreached_frame (s : State) (f : Feed) :
    (s.skipUnreached f).now = s.now ∧ (s.skipUnreached f).mtu = s.mtu ∧
    (s.skipUnreached f).pda = s.pda ∧ (s.skipUnreached f).stations = s.stations ∧
    (s.skipUnreached f).streams = s.streams ∧ (s.skipUnreached f).links = s.links ∧
    (s.skipUnreached f).notch = s.notch ∧ (s.skipUnreached f).claims = s.claims ∧
    (s.skipUnreached f).planner = s.planner ∧ (s.skipUnreached f).mgp = s.mgp ∧
    (s.skipUnreached f).choices = s.choices ∧ (s.skipUnreached f).pending = s.pending := by
  unfold State.skipUnreached
  refine ⟨State.forEach_now _ _ ?_ s, State.forEach_mtu _ _ ?_ s, State.forEach_pda _ _ ?_ s, State.forEach_stations _ _ ?_ s, State.forEach_streams _ _ ?_ s, State.forEach_links _ _ ?_ s, State.forEach_notch _ _ ?_ s, State.forEach_claims _ _ ?_ s, State.forEach_planner _ _ ?_ s, State.forEach_mgp _ _ ?_ s, State.forEach_choices _ _ ?_ s, State.forEach_pending _ _ ?_ s⟩ <;> intros <;> simp

@[simp] theorem State.countPending_frame (s : State) (f : Feed) :
    (s.countPending f).now = s.now ∧ (s.countPending f).mtu = s.mtu ∧ (s.countPending f).pda = s.pda ∧
    (s.countPending f).links = s.links ∧ (s.countPending f).notch = s.notch ∧
    (s.countPending f).claims = s.claims ∧ (s.countPending f).planner = s.planner ∧
    (s.countPending f).clc = s.clc ∧ (s.countPending f).choices = s.choices ∧
    (s.countPending f).pending = s.pending := by
  unfold State.countPending
  split
  · simp
  · split <;> simp

@[simp] theorem State.offerBeaconStart_frame (s : State) (f : Feed) :
    (s.offerBeaconStart f).now = s.now ∧ (s.offerBeaconStart f).mtu = s.mtu ∧
    (s.offerBeaconStart f).csq = s.csq ∧ (s.offerBeaconStart f).pda = s.pda ∧
    (s.offerBeaconStart f).stations = s.stations ∧ (s.offerBeaconStart f).streams = s.streams ∧
    (s.offerBeaconStart f).links = s.links ∧ (s.offerBeaconStart f).notch = s.notch ∧
    (s.offerBeaconStart f).claims = s.claims ∧ (s.offerBeaconStart f).planner = s.planner ∧
    (s.offerBeaconStart f).mgp = s.mgp ∧ (s.offerBeaconStart f).choices = s.choices ∧
    (s.offerBeaconStart f).pending = s.pending := by
  simp [State.offerBeaconStart]

@[simp] theorem State.handBoundary_frame (s : State) (f : Feed) (o : BoundaryOrder) :
    (s.handBoundary f o).now = s.now ∧ (s.handBoundary f o).mtu = s.mtu ∧
    (s.handBoundary f o).csq = s.csq ∧ (s.handBoundary f o).pda = s.pda ∧
    (s.handBoundary f o).stations = s.stations ∧ (s.handBoundary f o).notch = s.notch ∧
    (s.handBoundary f o).choices = s.choices ∧ (s.handBoundary f o).pending = s.pending := by
  unfold State.handBoundary
  split <;> simp

@[simp] theorem State.playBoundary_frame (s : State) (f : Feed) (o : BoundaryOrder) :
    (s.playBoundary f o).now = s.now ∧ (s.playBoundary f o).mtu = s.mtu ∧
    (s.playBoundary f o).pda = s.pda ∧ (s.playBoundary f o).notch = s.notch ∧
    (s.playBoundary f o).choices = s.choices ∧ (s.playBoundary f o).pending = s.pending := by
  simp [State.playBoundary]

@[simp] theorem State.offerZone_frame (s : State) (f : Feed) (z p : Nat) :
    (s.offerZone f z p).now = s.now ∧ (s.offerZone f z p).mtu = s.mtu ∧
    (s.offerZone f z p).csq = s.csq ∧ (s.offerZone f z p).pda = s.pda ∧
    (s.offerZone f z p).stations = s.stations ∧ (s.offerZone f z p).streams = s.streams ∧
    (s.offerZone f z p).links = s.links ∧ (s.offerZone f z p).notch = s.notch ∧
    (s.offerZone f z p).claims = s.claims ∧ (s.offerZone f z p).planner = s.planner ∧
    (s.offerZone f z p).mgp = s.mgp ∧ (s.offerZone f z p).choices = s.choices ∧
    (s.offerZone f z p).pending = s.pending := by
  simp [State.offerZone]

@[simp] theorem State.armStarts_frame (s : State) (f : Feed) :
    (s.armStarts f).now = s.now ∧ (s.armStarts f).mtu = s.mtu ∧ (s.armStarts f).stations = s.stations ∧
    (s.armStarts f).streams = s.streams ∧ (s.armStarts f).links = s.links ∧
    (s.armStarts f).notch = s.notch ∧ (s.armStarts f).claims = s.claims ∧
    (s.armStarts f).planner = s.planner ∧ (s.armStarts f).choices = s.choices ∧
    (s.armStarts f).pending = s.pending := by
  simp only [State.armStarts]
  (repeat' split) <;> simp

@[simp] theorem State.playHalf_frame (s : State) (f : Feed) (h : Nat) (r : OriginRecord) (o : BoundaryOrder) :
    (s.playHalf f h r o).now = s.now ∧ (s.playHalf f h r o).mtu = s.mtu ∧
    (s.playHalf f h r o).notch = s.notch ∧ (s.playHalf f h r o).choices = s.choices ∧
    (s.playHalf f h r o).pending = s.pending := by
  unfold State.playHalf
  split <;> simp

@[simp] theorem State.takeOrigin_frame (s : State) (f : Feed) (r : OriginRecord) (o : BoundaryOrder) :
    (s.takeOrigin f r o).now = s.now ∧ (s.takeOrigin f r o).mtu = s.mtu ∧
    (s.takeOrigin f r o).notch = s.notch ∧ (s.takeOrigin f r o).choices = s.choices ∧
    (s.takeOrigin f r o).pending = s.pending := by
  simp only [State.takeOrigin]
  (repeat' split) <;> simp

@[simp] theorem State.endPlayback_frame (s : State) (f : Feed) :
    (s.endPlayback f).now = s.now ∧ (s.endPlayback f).mtu = s.mtu ∧
    (s.endPlayback f).stations = s.stations ∧ (s.endPlayback f).streams = s.streams ∧
    (s.endPlayback f).links = s.links ∧ (s.endPlayback f).notch = s.notch ∧
    (s.endPlayback f).claims = s.claims ∧ (s.endPlayback f).planner = s.planner ∧
    (s.endPlayback f).mgp = s.mgp ∧ (s.endPlayback f).choices = s.choices ∧
    (s.endPlayback f).pending = s.pending := by
  simp [State.endPlayback]

@[simp] theorem State.seqTakesChange_frame (s : State) (f : Feed) (m : MainsState) :
    (s.seqTakesChange f m).now = s.now ∧ (s.seqTakesChange f m).mtu = s.mtu ∧
    (s.seqTakesChange f m).stations = s.stations ∧ (s.seqTakesChange f m).streams = s.streams ∧
    (s.seqTakesChange f m).links = s.links ∧ (s.seqTakesChange f m).notch = s.notch ∧
    (s.seqTakesChange f m).claims = s.claims ∧ (s.seqTakesChange f m).planner = s.planner ∧
    (s.seqTakesChange f m).mgp = s.mgp ∧ (s.seqTakesChange f m).choices = s.choices ∧
    (s.seqTakesChange f m).pending = s.pending := by
  unfold State.seqTakesChange
  split <;> simp

@[simp] theorem State.handMains_frame (s : State) (f : Feed) (old new : MainsState) (o : ChangeOrder) :
    (s.handMains f old new o).now = s.now ∧ (s.handMains f old new o).mtu = s.mtu ∧
    (s.handMains f old new o).stations = s.stations ∧ (s.handMains f old new o).streams = s.streams ∧
    (s.handMains f old new o).links = s.links ∧ (s.handMains f old new o).notch = s.notch ∧
    (s.handMains f old new o).claims = s.claims ∧ (s.handMains f old new o).planner = s.planner ∧
    (s.handMains f old new o).choices = s.choices ∧ (s.handMains f old new o).pending = s.pending := by
  unfold State.handMains
  split
  · simp
  · split <;> simp

@[simp] theorem State.mainsBecomes_frame (s : State) (f : Feed) (m : Mtu) (o : ChangeOrder) :
    (s.mainsBecomes f m o).now = s.now ∧ (s.mainsBecomes f m o).stations = s.stations ∧
    (s.mainsBecomes f m o).streams = s.streams ∧ (s.mainsBecomes f m o).links = s.links ∧
    (s.mainsBecomes f m o).notch = s.notch ∧ (s.mainsBecomes f m o).claims = s.claims ∧
    (s.mainsBecomes f m o).planner = s.planner ∧ (s.mainsBecomes f m o).choices = s.choices ∧
    (s.mainsBecomes f m o).pending = s.pending := by
  simp [State.mainsBecomes]

@[simp] theorem State.offerAbandoned_frame (s : State) (f : Feed) (r : Report) (w : AbandonReason) :
    (s.offerAbandoned f r w).now = s.now ∧ (s.offerAbandoned f r w).mtu = s.mtu ∧
    (s.offerAbandoned f r w).csq = s.csq ∧ (s.offerAbandoned f r w).pda = s.pda ∧
    (s.offerAbandoned f r w).stations = s.stations ∧ (s.offerAbandoned f r w).streams = s.streams ∧
    (s.offerAbandoned f r w).links = s.links ∧ (s.offerAbandoned f r w).notch = s.notch ∧
    (s.offerAbandoned f r w).claims = s.claims ∧ (s.offerAbandoned f r w).planner = s.planner ∧
    (s.offerAbandoned f r w).mgp = s.mgp ∧ (s.offerAbandoned f r w).choices = s.choices ∧
    (s.offerAbandoned f r w).pending = s.pending := by
  simp [State.offerAbandoned]

@[simp] theorem State.openNew_frame (s : State) (f : Feed) (tag link zone firstBlock blocks : Byte) :
    (s.openNew f tag link zone firstBlock blocks).now = s.now ∧
    (s.openNew f tag link zone firstBlock blocks).mtu = s.mtu ∧
    (s.openNew f tag link zone firstBlock blocks).csq = s.csq ∧
    (s.openNew f tag link zone firstBlock blocks).pda = s.pda ∧
    (s.openNew f tag link zone firstBlock blocks).stations = s.stations ∧
    (s.openNew f tag link zone firstBlock blocks).streams = s.streams ∧
    (s.openNew f tag link zone firstBlock blocks).links = s.links ∧
    (s.openNew f tag link zone firstBlock blocks).notch = s.notch ∧
    (s.openNew f tag link zone firstBlock blocks).claims = s.claims ∧
    (s.openNew f tag link zone firstBlock blocks).planner = s.planner ∧
    (s.openNew f tag link zone firstBlock blocks).mgp = s.mgp ∧
    (s.openNew f tag link zone firstBlock blocks).choices = s.choices ∧
    (s.openNew f tag link zone firstBlock blocks).pending = s.pending := by
  unfold State.openNew
  (repeat' split) <;> simp

@[simp] theorem State.measureOpen_frame (s : State) (f : Feed) (tag link zone firstBlock blocks : Byte) :
    (s.measureOpen f tag link zone firstBlock blocks).now = s.now ∧
    (s.measureOpen f tag link zone firstBlock blocks).mtu = s.mtu ∧
    (s.measureOpen f tag link zone firstBlock blocks).csq = s.csq ∧
    (s.measureOpen f tag link zone firstBlock blocks).pda = s.pda ∧
    (s.measureOpen f tag link zone firstBlock blocks).stations = s.stations ∧
    (s.measureOpen f tag link zone firstBlock blocks).streams = s.streams ∧
    (s.measureOpen f tag link zone firstBlock blocks).links = s.links ∧
    (s.measureOpen f tag link zone firstBlock blocks).notch = s.notch ∧
    (s.measureOpen f tag link zone firstBlock blocks).claims = s.claims ∧
    (s.measureOpen f tag link zone firstBlock blocks).planner = s.planner ∧
    (s.measureOpen f tag link zone firstBlock blocks).mgp = s.mgp ∧
    (s.measureOpen f tag link zone firstBlock blocks).choices = s.choices ∧
    (s.measureOpen f tag link zone firstBlock blocks).pending = s.pending := by
  unfold State.measureOpen
  split <;> simp

@[simp] theorem State.acceptBlock_frame (s : State) (f : Feed) (tag : Byte) (b : BufNo) (r : Report) :
    (s.acceptBlock f tag b r).now = s.now ∧ (s.acceptBlock f tag b r).mtu = s.mtu ∧
    (s.acceptBlock f tag b r).csq = s.csq ∧ (s.acceptBlock f tag b r).pda = s.pda ∧
    (s.acceptBlock f tag b r).stations = s.stations ∧ (s.acceptBlock f tag b r).streams = s.streams ∧
    (s.acceptBlock f tag b r).links = s.links ∧ (s.acceptBlock f tag b r).notch = s.notch ∧
    (s.acceptBlock f tag b r).claims = s.claims ∧ (s.acceptBlock f tag b r).mgp = s.mgp ∧
    (s.acceptBlock f tag b r).choices = s.choices ∧ (s.acceptBlock f tag b r).pending = s.pending := by
  unfold State.acceptBlock
  split <;> simp

@[simp] theorem State.measureBlock_frame (s : State) (f : Feed) (tag q : Byte) (v : Vector Byte 8) :
    (s.measureBlock f tag q v).now = s.now ∧ (s.measureBlock f tag q v).mtu = s.mtu ∧
    (s.measureBlock f tag q v).csq = s.csq ∧ (s.measureBlock f tag q v).pda = s.pda ∧
    (s.measureBlock f tag q v).stations = s.stations ∧ (s.measureBlock f tag q v).streams = s.streams ∧
    (s.measureBlock f tag q v).links = s.links ∧ (s.measureBlock f tag q v).notch = s.notch ∧
    (s.measureBlock f tag q v).claims = s.claims ∧ (s.measureBlock f tag q v).mgp = s.mgp ∧
    (s.measureBlock f tag q v).choices = s.choices ∧ (s.measureBlock f tag q v).pending = s.pending := by
  unfold State.measureBlock
  (repeat' split) <;> simp

@[simp] theorem State.measureAbort_frame (s : State) (f : Feed) (tag : Byte) :
    (s.measureAbort f tag).now = s.now ∧ (s.measureAbort f tag).mtu = s.mtu ∧
    (s.measureAbort f tag).csq = s.csq ∧ (s.measureAbort f tag).pda = s.pda ∧
    (s.measureAbort f tag).stations = s.stations ∧ (s.measureAbort f tag).streams = s.streams ∧
    (s.measureAbort f tag).links = s.links ∧ (s.measureAbort f tag).notch = s.notch ∧
    (s.measureAbort f tag).claims = s.claims ∧ (s.measureAbort f tag).planner = s.planner ∧
    (s.measureAbort f tag).mgp = s.mgp ∧ (s.measureAbort f tag).choices = s.choices ∧
    (s.measureAbort f tag).pending = s.pending := by
  simp [State.measureAbort]

@[simp] theorem State.abandonRemoved_frame (s : State) (f : Feed) (n : StationIx) :
    (s.abandonRemoved f n).now = s.now ∧ (s.abandonRemoved f n).mtu = s.mtu ∧
    (s.abandonRemoved f n).csq = s.csq ∧ (s.abandonRemoved f n).pda = s.pda ∧
    (s.abandonRemoved f n).stations = s.stations ∧ (s.abandonRemoved f n).streams = s.streams ∧
    (s.abandonRemoved f n).links = s.links ∧ (s.abandonRemoved f n).notch = s.notch ∧
    (s.abandonRemoved f n).claims = s.claims ∧ (s.abandonRemoved f n).planner = s.planner ∧
    (s.abandonRemoved f n).mgp = s.mgp ∧ (s.abandonRemoved f n).choices = s.choices ∧
    (s.abandonRemoved f n).pending = s.pending := by
  unfold State.abandonRemoved
  split
  · split <;> simp
  · simp

@[simp] theorem State.enterStation_frame (s : State) (n : StationIx) (f : Feed) (a : Byte) :
    (s.enterStation n f a).now = s.now ∧ (s.enterStation n f a).mtu = s.mtu ∧ (s.enterStation n f a).csq = s.csq ∧
    (s.enterStation n f a).pda = s.pda ∧ (s.enterStation n f a).streams = s.streams ∧
    (s.enterStation n f a).notch = s.notch ∧ (s.enterStation n f a).claims = s.claims ∧
    (s.enterStation n f a).planner = s.planner ∧ (s.enterStation n f a).clc = s.clc ∧ (s.enterStation n f a).mgp = s.mgp ∧
    (s.enterStation n f a).choices = s.choices ∧ (s.enterStation n f a).pending = s.pending := ⟨rfl, rfl, rfl, rfl, rfl, rfl, rfl, rfl, rfl, rfl, rfl, rfl⟩

@[simp] theorem State.purgeNotices_frame (s : State) (f : Feed) (n : StationIx) :
    (s.purgeNotices f n).now = s.now ∧ (s.purgeNotices f n).mtu = s.mtu ∧
    (s.purgeNotices f n).csq = s.csq ∧ (s.purgeNotices f n).pda = s.pda ∧
    (s.purgeNotices f n).stations = s.stations ∧ (s.purgeNotices f n).streams = s.streams ∧
    (s.purgeNotices f n).links = s.links ∧ (s.purgeNotices f n).notch = s.notch ∧
    (s.purgeNotices f n).claims = s.claims ∧ (s.purgeNotices f n).planner = s.planner ∧
    (s.purgeNotices f n).mgp = s.mgp ∧ (s.purgeNotices f n).choices = s.choices ∧
    (s.purgeNotices f n).pending = s.pending := ⟨rfl, rfl, rfl, rfl, rfl, rfl, rfl, rfl, rfl, rfl, rfl, rfl, rfl⟩

@[simp] theorem State.tearDown_frame (s : State) (n : StationIx) (f : Feed) :
    (s.tearDown n f).now = s.now ∧ (s.tearDown n f).mtu = s.mtu ∧ (s.tearDown n f).csq = s.csq ∧
    (s.tearDown n f).pda = s.pda ∧ (s.tearDown n f).streams = s.streams ∧
    (s.tearDown n f).notch = s.notch ∧ (s.tearDown n f).mgp = s.mgp ∧
    (s.tearDown n f).choices = s.choices ∧ (s.tearDown n f).pending = s.pending := by
  simp [State.tearDown]

@[simp] theorem State.hear_frame (s : State) (f : Feed) (tag a : Byte) :
    (s.hear f tag a).now = s.now ∧ (s.hear f tag a).mtu = s.mtu ∧ (s.hear f tag a).csq = s.csq ∧
    (s.hear f tag a).pda = s.pda ∧ (s.hear f tag a).stations = s.stations ∧
    (s.hear f tag a).streams = s.streams ∧ (s.hear f tag a).links = s.links ∧
    (s.hear f tag a).notch = s.notch ∧ (s.hear f tag a).claims = s.claims ∧
    (s.hear f tag a).planner = s.planner ∧ (s.hear f tag a).choices = s.choices ∧
    (s.hear f tag a).pending = s.pending := by
  unfold State.hear
  (repeat' split) <;> simp

@[simp] theorem State.createStream_frame (s : State) (n : StreamNo) (e : StreamEnds) :
    (s.createStream n e).now = s.now ∧ (s.createStream n e).mtu = s.mtu ∧
    (s.createStream n e).csq = s.csq ∧ (s.createStream n e).pda = s.pda ∧
    (s.createStream n e).links = s.links ∧ (s.createStream n e).notch = s.notch ∧
    (s.createStream n e).claims = s.claims ∧ (s.createStream n e).planner = s.planner ∧
    (s.createStream n e).clc = s.clc ∧ (s.createStream n e).mgp = s.mgp ∧
    (s.createStream n e).choices = s.choices ∧ (s.createStream n e).pending = s.pending := ⟨rfl, rfl, rfl, rfl, rfl, rfl, rfl, rfl, rfl, rfl, rfl, rfl⟩

@[simp] theorem State.flushLink_frame (s : State) (f : Feed) :
    (s.flushLink f).now = s.now ∧ (s.flushLink f).mtu = s.mtu ∧ (s.flushLink f).csq = s.csq ∧
    (s.flushLink f).pda = s.pda ∧ (s.flushLink f).stations = s.stations ∧
    (s.flushLink f).streams = s.streams ∧ (s.flushLink f).notch = s.notch ∧
    (s.flushLink f).mgp = s.mgp ∧ (s.flushLink f).choices = s.choices ∧
    (s.flushLink f).pending = s.pending := by
  simp [State.flushLink]

@[simp] theorem State.loseLink_frame (s : State) (f : Feed) :
    (s.loseLink f).now = s.now ∧ (s.loseLink f).mtu = s.mtu ∧ (s.loseLink f).csq = s.csq ∧
    (s.loseLink f).pda = s.pda ∧ (s.loseLink f).stations = s.stations ∧
    (s.loseLink f).streams = s.streams ∧ (s.loseLink f).notch = s.notch ∧
    (s.loseLink f).choices = s.choices ∧ (s.loseLink f).pending = s.pending := by
  simp [State.loseLink]

@[simp] theorem State.endResponse_frame (s : State) (f : Feed) (o : EndOrder) :
    (s.endResponse f o).now = s.now ∧ (s.endResponse f o).mtu = s.mtu ∧
    (s.endResponse f o).csq = s.csq ∧ (s.endResponse f o).pda = s.pda ∧
    (s.endResponse f o).stations = s.stations ∧ (s.endResponse f o).streams = s.streams ∧
    (s.endResponse f o).notch = s.notch ∧ (s.endResponse f o).mgp = s.mgp ∧
    (s.endResponse f o).choices = s.choices ∧ (s.endResponse f o).pending = s.pending := by
  unfold State.endResponse
  split <;> simp

@[simp] theorem State.restartSeq_frame (s : State) (f : Feed) :
    (s.restartSeq f).now = s.now ∧ (s.restartSeq f).mtu = s.mtu ∧ (s.restartSeq f).links = s.links ∧
    (s.restartSeq f).notch = s.notch ∧ (s.restartSeq f).claims = s.claims ∧
    (s.restartSeq f).planner = s.planner ∧ (s.restartSeq f).mgp = s.mgp ∧
    (s.restartSeq f).choices = s.choices ∧ (s.restartSeq f).pending = s.pending := by
  simp [State.restartSeq]

@[simp] theorem State.restartMains_frame (s : State) (f : Feed) :
    (s.restartMains f).now = s.now ∧ (s.restartMains f).csq = s.csq ∧ (s.restartMains f).pda = s.pda ∧
    (s.restartMains f).stations = s.stations ∧ (s.restartMains f).streams = s.streams ∧
    (s.restartMains f).links = s.links ∧ (s.restartMains f).notch = s.notch ∧
    (s.restartMains f).claims = s.claims ∧ (s.restartMains f).planner = s.planner ∧
    (s.restartMains f).clc = s.clc ∧ (s.restartMains f).choices = s.choices ∧
    (s.restartMains f).pending = s.pending := by
  unfold State.restartMains
  split <;> simp

@[simp] theorem State.configure_frame (s : State) (f : Feed) (o b : Nat) (a : Byte) (bs : List Nat) :
    (s.configure f o b a bs).now = s.now ∧ (s.configure f o b a bs).pda = s.pda ∧
    (s.configure f o b a bs).links = s.links ∧ (s.configure f o b a bs).notch = s.notch ∧
    (s.configure f o b a bs).claims = s.claims ∧ (s.configure f o b a bs).planner = s.planner ∧
    (s.configure f o b a bs).clc = s.clc ∧ (s.configure f o b a bs).mgp = s.mgp ∧
    (s.configure f o b a bs).choices = s.choices ∧ (s.configure f o b a bs).pending = s.pending := by
  simp [State.configure]

@[simp] theorem State.refuseFrame_frame (s : State) (f : Feed) (tag : Byte) :
    (s.refuseFrame f tag).now = s.now ∧ (s.refuseFrame f tag).mtu = s.mtu ∧
    (s.refuseFrame f tag).csq = s.csq ∧ (s.refuseFrame f tag).pda = s.pda ∧
    (s.refuseFrame f tag).stations = s.stations ∧ (s.refuseFrame f tag).streams = s.streams ∧
    (s.refuseFrame f tag).links = s.links ∧ (s.refuseFrame f tag).notch = s.notch ∧
    (s.refuseFrame f tag).claims = s.claims ∧ (s.refuseFrame f tag).planner = s.planner ∧
    (s.refuseFrame f tag).mgp = s.mgp ∧ (s.refuseFrame f tag).choices = s.choices ∧
    (s.refuseFrame f tag).pending = s.pending := by
  simp [State.refuseFrame]

@[simp] theorem State.dispatchFrame_frame (s : State) (f : Feed) (tag type : Byte) (p : List Byte) :
    (s.dispatchFrame f tag type p).now = s.now ∧ (s.dispatchFrame f tag type p).mtu = s.mtu ∧
    (s.dispatchFrame f tag type p).csq = s.csq ∧ (s.dispatchFrame f tag type p).pda = s.pda ∧
    (s.dispatchFrame f tag type p).stations = s.stations ∧
    (s.dispatchFrame f tag type p).notch = s.notch ∧
    (s.dispatchFrame f tag type p).choices = s.choices ∧
    (s.dispatchFrame f tag type p).pending = s.pending := by
  unfold State.dispatchFrame
  (repeat' split) <;> simp

@[simp] theorem State.validSymbol_frame (s : State) (f : Feed) :
    (s.validSymbol f).now = s.now ∧ (s.validSymbol f).mtu = s.mtu ∧ (s.validSymbol f).csq = s.csq ∧
    (s.validSymbol f).pda = s.pda ∧ (s.validSymbol f).stations = s.stations ∧
    (s.validSymbol f).streams = s.streams ∧ (s.validSymbol f).links = s.links ∧
    (s.validSymbol f).notch = s.notch ∧ (s.validSymbol f).claims = s.claims ∧
    (s.validSymbol f).planner = s.planner ∧ (s.validSymbol f).mgp = s.mgp ∧
    (s.validSymbol f).choices = s.choices ∧ (s.validSymbol f).pending = s.pending := by
  unfold State.validSymbol
  split <;> simp

@[simp] theorem State.setReceiver_frame (s : State) (f : Feed) (r : Receiver) :
    (s.setReceiver f r).now = s.now ∧ (s.setReceiver f r).mtu = s.mtu ∧
    (s.setReceiver f r).csq = s.csq ∧ (s.setReceiver f r).pda = s.pda ∧
    (s.setReceiver f r).stations = s.stations ∧ (s.setReceiver f r).streams = s.streams ∧
    (s.setReceiver f r).links = s.links ∧ (s.setReceiver f r).notch = s.notch ∧
    (s.setReceiver f r).claims = s.claims ∧ (s.setReceiver f r).planner = s.planner ∧
    (s.setReceiver f r).mgp = s.mgp ∧ (s.setReceiver f r).choices = s.choices ∧
    (s.setReceiver f r).pending = s.pending := ⟨rfl, rfl, rfl, rfl, rfl, rfl, rfl, rfl, rfl, rfl, rfl, rfl, rfl⟩

@[simp] theorem State.cutInbound_frame (s : State) (f : Feed) (g : ControlGroup) :
    (s.cutInbound f g).now = s.now ∧ (s.cutInbound f g).mtu = s.mtu ∧ (s.cutInbound f g).csq = s.csq ∧
    (s.cutInbound f g).pda = s.pda ∧ (s.cutInbound f g).stations = s.stations ∧
    (s.cutInbound f g).streams = s.streams ∧ (s.cutInbound f g).links = s.links ∧
    (s.cutInbound f g).notch = s.notch ∧ (s.cutInbound f g).claims = s.claims ∧
    (s.cutInbound f g).planner = s.planner ∧ (s.cutInbound f g).mgp = s.mgp ∧
    (s.cutInbound f g).choices = s.choices ∧ (s.cutInbound f g).pending = s.pending := by
  unfold State.cutInbound
  split <;> simp

end Sys2Proof.Machine
end

