-- ==== Sys2Proof/Laws/Spec.lean ====
section
/-! SUPPORT. What each shared operation does, said once: the reading of operands, the execution of a management
command, the transmitter, the offers of notices, the arrival of a frame, the plan queue and the fetch claims. -/
namespace Sys2Proof.Machine

/-! ### Operands -/

theorem finOf_eq_none {n x : Nat} (h : n ≤ x) : finOf n x = none := by
  simp only [finOf, dif_neg (Nat.not_lt.mpr h)]

theorem finOf_eq_some {n x : Nat} (i : Fin n) (h : x = i.val) : finOf n x = some i := by
  subst h
  simp [finOf]

theorem feedOf_feedIndex {w : Word} {f : Feed} (h : feedOf w = some f) : w.toNat = feedIndex f := by
  revert h
  unfold feedOf
  split <;> intro h <;> simp_all <;> subst h <;> rfl

/-! ### Management commands (R187) -/

/-- An admitted command: its owner's effects, and its completion. -/
theorem State.manage_of_admits {s : State} {code : Byte} {params : List Word} (owner : State → Answer)
    (h : s.mgp.admits code params = true) :
    s.manage code params owner =
      (owner s).1.setMgp ((owner s).1.mgp.complete code params (owner s).2) := by
  simp only [State.manage, if_pos h]

/-- A command written over another one is ignored. -/
theorem State.manage_of_not_admits {s : State} {code : Byte} {params : List Word} (owner : State → Answer)
    (h : s.mgp.admits code params = false) :
    s.manage code params owner = s.setMgp { s.mgp with writeIgnored := true } := by
  simp [State.manage, h]

/-- A command whose owner refuses it, or only replies, changes the port alone. -/
theorem State.manage_of_reply {s : State} {code : Byte} {params : List Word} {owner : State → Answer}
    {c : Completion} {words : List Word} (h : s.mgp.admits code params = true)
    (ho : owner s = (s, ⟨c, words⟩)) : s.manage code params owner = s.replies code params c words := by
  rw [State.manage_of_admits owner h, ho, State.replies]

/-! ### The transmitter (R179) -/

/-- The transmitter has begun at most one frame: a head has left its queue, or the response has begun. -/
structure Clc.Advanced (c d : Clc) : Prop where
  link : d.link = c.link
  receiver : d.receiver = c.receiver
  buf0 : d.buf0 = c.buf0
  buf1 : d.buf1 = c.buf1
  report : d.report = c.report
  slot : d.slot = c.slot ∨ ∃ sl, c.slot = some sl ∧ d.slot = some { sl with begun := true }
  timing : d.timing <:+ c.timing
  general : d.general <:+ c.general

theorem Clc.Advanced.rfl' (c : Clc) : c.Advanced c :=
  ⟨rfl, rfl, rfl, rfl, rfl, .inl rfl, List.suffix_rfl, List.suffix_rfl⟩

theorem Clc.Advanced.buffer {c d : Clc} (h : c.Advanced d) (b : BufNo) : d.buffer b = c.buffer b := by
  cases b
  · exact h.buf0
  · exact h.buf1

/-- A response in the slot stays there. -/
theorem Clc.Advanced.answers {c d : Clc} (h : c.Advanced d) {tag : Byte} {r : Response}
    (ha : c.Answers tag r) : d.Answers tag r := by
  obtain ⟨b, hb⟩ := ha
  obtain hs | ⟨sl, h1, h2⟩ := h.slot
  · exact ⟨b, hs.trans hb⟩
  · cases hb.symm.trans h1
    exact ⟨true, h2⟩

theorem Clc.Advanced.slot_none {c d : Clc} (h : c.Advanced d) (hc : c.slot = none) : d.slot = none := by
  obtain hs | ⟨sl, h1, -⟩ := h.slot
  · exact hs.trans hc
  · cases hc.symm.trans h1

/-- The transmitter's choice changes CLC f alone, and there begins at most one frame. -/
theorem State.chooseFrame_spec (s : State) (f : Feed) :
    ∃ d, s.chooseFrame f = s.setClc f d ∧ (s.clc.get f).Advanced d := by
  have idle : ∃ d, s = s.setClc f d ∧ (s.clc.get f).Advanced d :=
    ⟨s.clc.get f, by simp [State.setClc], Clc.Advanced.rfl' _⟩
  have general : ∃ d, s.sendGeneral f (s.clc.get f) = s.setClc f d ∧ (s.clc.get f).Advanced d := by
    unfold State.sendGeneral
    split
    · exact idle
    · rename_i n rest h
      exact ⟨_, rfl, rfl, rfl, rfl, rfl, rfl, .inl rfl, List.suffix_rfl, by simp [h]⟩
  unfold State.chooseFrame
  simp only
  split
  · split
    · rename_i n rest h
      exact ⟨_, rfl, rfl, rfl, rfl, rfl, rfl, .inl rfl, by simp [h], List.suffix_rfl⟩
    · unfold State.sendResponse
      split
      · rename_i sl h
        split
        · exact general
        · exact ⟨_, rfl, rfl, rfl, rfl, rfl, rfl, .inr ⟨sl, h, rfl⟩, List.suffix_rfl, List.suffix_rfl⟩
      · exact general
  · exact idle

/-! ### Offers of notices (R180 to R182) -/

/-- A notice has been offered to a CLC: nothing changes there but its queues, lost marks and transmitter. -/
structure Clc.Offered (c d : Clc) : Prop where
  link : d.link = c.link
  receiver : d.receiver = c.receiver
  buf0 : d.buf0 = c.buf0
  buf1 : d.buf1 = c.buf1
  report : d.report = c.report
  slot : d.slot = c.slot ∨ ∃ sl, c.slot = some sl ∧ d.slot = some { sl with begun := true }

theorem Clc.Offered.rfl' (c : Clc) : c.Offered c := ⟨rfl, rfl, rfl, rfl, rfl, .inl rfl⟩

theorem Clc.Offered.trans {c d e : Clc} (h : c.Offered d) (k : d.Offered e) : c.Offered e := by
  refine ⟨k.link.trans h.link, k.receiver.trans h.receiver, k.buf0.trans h.buf0, k.buf1.trans h.buf1,
    k.report.trans h.report, ?_⟩
  obtain h1 | ⟨x, h1, h2⟩ := h.slot <;> obtain k1 | ⟨y, k1, k2⟩ := k.slot
  · exact .inl (k1.trans h1)
  · exact .inr ⟨y, h1 ▸ k1, k2⟩
  · exact .inr ⟨x, h1, k1.trans h2⟩
  · cases h2.symm.trans k1
    exact .inr ⟨x, h1, k2⟩

theorem Clc.Advanced.offered {c d : Clc} (h : c.Advanced d) : c.Offered d :=
  ⟨h.link, h.receiver, h.buf0, h.buf1, h.report, h.slot⟩

theorem Clc.Offered.buffer {c d : Clc} (h : c.Offered d) (b : BufNo) : d.buffer b = c.buffer b := by
  cases b
  · exact h.buf0
  · exact h.buf1

theorem Clc.Offered.answers {c d : Clc} (h : c.Offered d) {tag : Byte} {r : Response}
    (ha : c.Answers tag r) : d.Answers tag r := by
  obtain ⟨b, hb⟩ := ha
  obtain hs | ⟨sl, h1, h2⟩ := h.slot
  · exact ⟨b, hs.trans hb⟩
  · cases hb.symm.trans h1
    exact ⟨true, h2⟩

theorem Clc.Offered.slot_none {c d : Clc} (h : c.Offered d) (hc : c.slot = none) : d.slot = none := by
  obtain hs | ⟨sl, h1, -⟩ := h.slot
  · exact hs.trans hc
  · cases hc.symm.trans h1

theorem Clc.queueTiming_offered (c : Clc) (n : TimingNotice) : c.Offered (c.queueTiming n) := by
  unfold Clc.queueTiming
  split <;> exact ⟨rfl, rfl, rfl, rfl, rfl, .inl rfl⟩

theorem Clc.queueGeneral_offered (c : Clc) (n : GeneralNotice) : c.Offered (c.queueGeneral n) := by
  unfold Clc.queueGeneral
  (repeat' split) <;> exact ⟨rfl, rfl, rfl, rfl, rfl, .inl rfl⟩

/-- The offer of a timing notice changes CLC f alone. -/
theorem State.offerTiming_spec (s : State) (f : Feed) (n : TimingNotice) :
    ∃ d, s.offerTiming f n = s.setClc f d ∧ (s.clc.get f).Offered d ∧ d.general <:+ (s.clc.get f).general := by
  unfold State.offerTiming
  split
  · exact ⟨_, rfl, ⟨rfl, rfl, rfl, rfl, rfl, .inl rfl⟩, List.suffix_rfl⟩
  · obtain ⟨d, h1, h2⟩ := (s.setClc f ((s.clc.get f).queueTiming n)).chooseFrame_spec f
    refine ⟨d, by rw [h1]; simp [State.setClc], ?_, ?_⟩
    · exact (Clc.queueTiming_offered _ n).trans (by simpa using h2.offered)
    · have hg : ((s.clc.get f).queueTiming n).general = (s.clc.get f).general := by
        unfold Clc.queueTiming
        split <;> rfl
      simpa [hg] using h2.general

/-- The offer of a general notice changes CLC f alone. -/
theorem State.offerGeneral_spec (s : State) (f : Feed) (n : GeneralNotice) :
    ∃ d, s.offerGeneral f n = s.setClc f d ∧ (s.clc.get f).Offered d ∧ d.timing <:+ (s.clc.get f).timing := by
  unfold State.offerGeneral
  split
  · exact ⟨_, rfl, ⟨rfl, rfl, rfl, rfl, rfl, .inl rfl⟩, List.suffix_rfl⟩
  · obtain ⟨d, h1, h2⟩ := (s.setClc f ((s.clc.get f).queueGeneral n)).chooseFrame_spec f
    refine ⟨d, by rw [h1]; simp [State.setClc], ?_, ?_⟩
    · exact (Clc.queueGeneral_offered _ n).trans (by simpa using h2.offered)
    · have hg : ((s.clc.get f).queueGeneral n).timing = (s.clc.get f).timing := by
        unfold Clc.queueGeneral
        (repeat' split) <;> rfl
      simpa [hg] using h2.timing

/-- A notice offered to a DOWN link is discarded, and its lost mark set (R182). -/
theorem State.offerGeneral_of_down {s : State} {f : Feed} (h : (s.clc.get f).link = .down)
    (n : GeneralNotice) : s.offerGeneral f n = s.setClc f { s.clc.get f with generalLost := true } := by
  simp [State.offerGeneral, h]

/-! ### Commands of a cycle link (R173, R175, R176) -/

/-- A response placed in the slot of CLC f changes that CLC alone. -/
theorem State.respond_spec (s : State) (f : Feed) (tag : Byte) (r : Response) :
    ∃ d, s.respond f tag r = s.setClc f d ∧ d.Answers tag r ∧
      ({ s.clc.get f with slot := some ⟨tag, r, false⟩ } : Clc).Advanced d := by
  obtain ⟨d, h1, h2⟩ :=
    (s.setClc f { s.clc.get f with slot := some ⟨tag, r, false⟩ }).chooseFrame_spec f
  have h3 : ({ s.clc.get f with slot := some ⟨tag, r, false⟩ } : Clc).Advanced d := by simpa using h2
  exact ⟨d, by rw [State.respond, h1]; simp [State.setClc], h3.answers ⟨false, rfl⟩, h3⟩

/-- A frame whose CRC checks: the link is UP with its deadline moved, and the receiver waits. -/
theorem State.heardFrame_eq (s : State) (f : Feed) :
    s.heardFrame f =
      { s with
        clc := s.clc.set f
          { s.clc.get f with link := .up (s.now + Config.lossTicks), receiver := .waiting }
        mgp := { s.mgp with events := s.eventsHeard f } } := by
  unfold State.heardFrame State.eventsHeard
  cases h : (s.clc.get f).link <;> simp [h, State.setClc, State.offerEvent, State.setMgp]

theorem State.takeFrame_of_free {s : State} {f : Feed} (h : (s.clc.get f).slot = none)
    (owner : State → State) : s.takeFrame f owner = owner (s.heardFrame f) := by
  unfold State.takeFrame State.takeGood
  rw [State.heardFrame_eq]
  simp [h]

/-- An owner takes a good frame in the state with the link heard. -/
theorem State.heardFrame_eq_hearing (s : State) (f : Feed) : s.heardFrame f = s.hearing f := s.heardFrame_eq f

/-- With the slot empty the owner of a good frame takes it in the state with the link heard (R175). -/
theorem State.takeFrame_eq {s : State} {f : Feed} (h : (s.clc.get f).slot = none) (owner : State → State) :
    s.takeFrame f owner = owner (s.hearing f) := by
  rw [State.takeFrame_of_free h, State.heardFrame_eq_hearing]

@[simp] theorem State.hearing_clc (s : State) (f : Feed) :
    (s.hearing f).clc.get f =
      { s.clc.get f with link := .up (s.now + Config.lossTicks), receiver := .waiting } := by
  simp [State.hearing, Config.lossTicks]

@[simp] theorem State.hearing_now (s : State) (f : Feed) : (s.hearing f).now = s.now := rfl
@[simp] theorem State.hearing_mtu (s : State) (f : Feed) : (s.hearing f).mtu = s.mtu := rfl
@[simp] theorem State.hearing_csq (s : State) (f : Feed) : (s.hearing f).csq = s.csq := rfl
@[simp] theorem State.hearing_stations (s : State) (f : Feed) : (s.hearing f).stations = s.stations := rfl
@[simp] theorem State.hearing_links (s : State) (f : Feed) : (s.hearing f).links = s.links := rfl
@[simp] theorem State.hearing_claims (s : State) (f : Feed) : (s.hearing f).claims = s.claims := rfl
@[simp] theorem State.hearing_planner (s : State) (f : Feed) : (s.hearing f).planner = s.planner := rfl

theorem State.takeFrame_of_occupied {s : State} {f : Feed} (h : (s.clc.get f).slot ≠ none)
    (owner : State → State) : s.takeFrame f owner = (s.heardFrame f).markDropped f := by
  unfold State.takeFrame State.takeGood
  rw [State.heardFrame_eq]
  cases hs : (s.clc.get f).slot
  · exact absurd hs h
  · simp [hs]

/-- An owner that changes CLC f alone, leaving its response in the slot, takes a frame as R175 says. -/
theorem State.takes_of_setClc {s t : State} {f : Feed} {tag : Byte} {r : Response} {d : Clc}
    (h : t = (s.heardFrame f).setClc f d) (ha : d.Answers tag r)
    (hl : d.link = .up (s.now + Config.lossTicks)) (hr : d.receiver = .waiting) :
    s.TookFrame t f tag r ∧ s.OnlyLineOf t f := by
  subst h
  rw [State.heardFrame_eq]
  refine ⟨⟨by simpa [State.setClc] using ha, by simpa [State.setClc] using hl,
    by simpa [State.setClc] using hr, fun g hg => ?_⟩, ?_⟩
  · simp [State.setClc, PerFeed.get_set_of_ne _ hg]
  · simp [State.OnlyLineOf, State.setClc]

/-! ### Publication and the release of a claim (R125, R157, R158, R164) -/

/-- A publication changes one link, and one CLC by an offer. -/
theorem State.publish_spec (s : State) (l : LinkNo) (k : Link) (zones : List ZoneMap) (grade : Grade)
    (cause : Cause) :
    ∃ d, s.publish l k zones grade cause =
        (s.setLink l (some (k.publish zones grade cause))).setClc k.record.feed d ∧
      (s.clc.get k.record.feed).Offered d ∧ d.timing <:+ (s.clc.get k.record.feed).timing := by
  obtain ⟨d, h1, h2, h3⟩ :=
    (s.setLink l (some (k.publish zones grade cause))).offerGeneral_spec k.record.feed
      (.mapNext l (k.staged zones grade cause).maps.version (k.staged zones grade cause).countdown cause)
  exact ⟨d, h1, h2, h3⟩

/-- Every CLC of t is that of s but for notices offered to it. -/
def State.ClcsOffered (s t : State) : Prop :=
  ∀ g, (s.clc.get g).Offered (t.clc.get g) ∧ (t.clc.get g).timing <:+ (s.clc.get g).timing

theorem State.ClcsOffered.rfl' {s t : State} (h : t.clc = s.clc) : s.ClcsOffered t := fun g => by
  rw [h]
  exact ⟨Clc.Offered.rfl' _, List.suffix_rfl⟩

theorem State.clcsOffered_setClc {s t : State} {f : Feed} {d : Clc} (h : t.clc = s.clc.set f d)
    (hd : (s.clc.get f).Offered d) (ht : d.timing <:+ (s.clc.get f).timing) : s.ClcsOffered t := fun g => by
  by_cases hg : g = f
  · subst hg
    simpa [h] using ⟨hd, ht⟩
  · rw [h, PerFeed.get_set_of_ne _ hg]
    exact ⟨Clc.Offered.rfl' _, List.suffix_rfl⟩

/-- The completion of a plan job: the engine is IDLE, and at most one link has a NEXT set staged. -/
theorem State.completePlan_spec (s : State) (job : PlanJob) (zones : List ZoneMap) :
    ∃ t, s.completePlan job zones = t ∧
      t = { s with
        planner := { s.planner with engine := .idle }
        links := t.links
        clc := t.clc } ∧ s.ClcsOffered t := by
  refine ⟨_, rfl, ?_⟩
  unfold State.completePlan
  simp only
  split
  · split
    · rename_i k hk hp
      obtain ⟨d, h1, h2, h3⟩ :=
        (s.setPlanner { s.planner with engine := .idle }).publish_spec job.link k zones job.grade job.cause
      rw [h1]
      exact ⟨rfl, State.clcsOffered_setClc rfl h2 h3⟩
    · exact ⟨rfl, State.ClcsOffered.rfl' rfl⟩
  · exact ⟨rfl, State.ClcsOffered.rfl' rfl⟩

/-- Whether a fetch claim is held on a link number (R124). -/
theorem State.claimedLink_iff {s : State} {l : LinkNo} :
    s.claimedLink l = true ↔ ∃ f c, s.claims.get f = some c ∧ c.link = l := by
  simp only [State.claimedLink, List.any_eq_true, Option.any_eq_true, decide_eq_true_eq]
  exact ⟨fun ⟨f, _, c, h⟩ => ⟨f, c, h⟩, fun ⟨f, c, h⟩ => ⟨f, by cases f <;> decide, c, h⟩⟩

/-- When the release of a claim completes a waiting job: it is on the job's own link, or no claim is left there. -/
theorem PlanJob.freedBy_iff {job : PlanJob} {c : FetchClaim} {claimed : Bool} :
    job.freedBy c claimed = true ↔
      job.link = c.link ∧ (c.generation = job.generation ∨ claimed = false) := by
  simp [PlanJob.freedBy]

/-- The release of a fetch claim: cycle link f has none, and at most a waiting plan job has completed. -/
theorem State.releaseClaim_spec (s : State) (f : Feed) :
    ∃ t, s.releaseClaim f = t ∧
      t = { s with claims := s.claims.set f none, planner := t.planner, links := t.links, clc := t.clc } ∧
      s.ClcsOffered t := by
  refine ⟨_, rfl, ?_⟩
  unfold State.releaseClaim
  split
  · rename_i h
    exact ⟨by rw [← h]; simp, State.ClcsOffered.rfl' rfl⟩
  · simp only
    split
    · split
      · rename_i job zones he hj
        obtain ⟨t, h1, h2, h3⟩ := (s.setClaim f none).completePlan_spec job zones
        rw [h1]
        refine ⟨?_, h3⟩
        rw [h2]
        rfl
      · exact ⟨rfl, State.ClcsOffered.rfl' rfl⟩
    · exact ⟨rfl, State.ClcsOffered.rfl' rfl⟩

theorem State.releaseClaim_of_none {s : State} {f : Feed} (h : s.claims.get f = none) :
    s.releaseClaim f = s := by
  simp [State.releaseClaim, h]

/-! ### The origin record and the port's reads -/

/-- The origin record is invalid exactly while it has no T_o (R11, R20). -/
@[simp] theorem Mtu.originRec_eq_none {m : Mtu} : m.originRec = none ↔ m.originMark = none := by
  simp [Mtu.originRec]

@[simp] theorem Mgp.readPort_flags (m : Mgp) : m.readPort 2 = { m with busOut := m.flagWord } := rfl

@[simp] theorem Mgp.readPort_dead (m : Mgp) : m.readPort 3 = { m with busOut := 0x0000 } := rfl

end Sys2Proof.Machine
end

