-- ==== Sys2Proof/Tests/Slice0.lean ====
section
/-! SUPPORT. Small tests of the model against numbers worked in the manual, the refusals of ill-formed terms, and a
witness for every statement that has hypotheses: a concrete state and operands that meet them. -/
namespace Sys2Proof.Tests
open Sys2Proof Sys2Proof.Machine

/-! ### Ill-formed terms -/

theorem test_known_command_is_not_unknown : (Instr.unknownCommand 0x50 []).wellFormed = false := by decide

theorem test_unknown_command_has_at_most_255_words :
    (Instr.unknownCommand 0x7F (List.replicate 256 0)).wellFormed = false := by decide +kernel

theorem test_known_frame_is_not_unknown : (Instr.unknownFrame .a 1 0x14 []).wellFormed = false := by decide

theorem test_unknown_frame_has_at_most_255_bytes :
    (Instr.unknownFrame .a 1 0x21 (List.replicate 256 0)).wellFormed = false := by decide +kernel

theorem test_missing_end_is_not_ended_by_end :
    (Instr.frameDiscarded .a (.endMissing .endSym)).wellFormed = false := by decide

theorem test_wrong_length_is_well_formed : (Instr.unknownFrame .a 1 0x14 [0]).wellFormed = true := by decide

/-! ### Numbers of the manual -/

/-- R172, note: over 0x31 to 0x39 the register ends at 0x29B1. -/
theorem test_crc_of_the_note :
    crc [0x31, 0x32, 0x33, 0x34, 0x35, 0x36, 0x37, 0x38, 0x39] = 0x29B1 := by decide +kernel

/-- Section 6.8, rows 1 to 4. -/
theorem test_fold_first_and_steps :
    foldGroup ⟨0, false⟩ 90 = ⟨360, true⟩ ∧ foldGroup ⟨300, true⟩ 90 = ⟨315, true⟩ ∧
      foldGroup ⟨300, true⟩ 60 = ⟨285, true⟩ ∧ foldGroup ⟨300, true⟩ 74 = ⟨299, true⟩ := by decide

/-- Section 6.8, rows 5 to 7. -/
theorem test_fold_residue :
    foldGroup ⟨300, true⟩ 75 = ⟨300, true⟩ ∧ foldGroup ⟨300, true⟩ 76 = ⟨301, true⟩ ∧
      foldGroup ⟨301, true⟩ 75 = ⟨301, true⟩ := by decide

/-- Section 7.8, groups 33 to 35 at FULL and at GUARDED with margin 8. -/
theorem test_load_codes_of_link_14 :
    loadCode (effectiveSnr 512 8) = 6 ∧ loadCode (effectiveSnr 300 8) = 4 ∧
      loadCode (effectiveSnr 120 8) = 1 ∧ loadCode (effectiveSnr 512 (effectiveMargin .guarded 8)) = 6 ∧
      loadCode (effectiveSnr 300 (effectiveMargin .guarded 8)) = 3 ∧
      loadCode (effectiveSnr 120 (effectiveMargin .guarded 8)) = 0 := by decide

/-- Section 7.8: the mask of feed B notches groups 60..63, and the ROBUST floor is 368. -/
theorem test_robust_floor_of_feed_b :
    openGroups (maskOfWords 0 0 0 0xF000 0 0) = 92 ∧
      (robustMap (maskOfWords 0 0 0 0xF000 0 0)).effective = 368 := by decide

/-- A link record with a tally at a grade. -/
def tallied (g : Grade) (ok failed : Nat) : LinkRecord := ⟨.b, 1, g, 8, 4, ok, failed, 2, 0, 7, none⟩

/-- Section 8.8, the rows at FULL and GUARDED. -/
theorem test_evaluations_at_full_and_guarded :
    (tallied .full 230 30).judge = ⟨.full, 0, 0, false⟩ ∧
      (tallied .full 220 40).judge = ⟨.guarded, 0, 0, false⟩ ∧
      (tallied .guarded 254 4).judge = ⟨.guarded, 3, 0, false⟩ := by decide

/-- Section 8.8, the rows at ROBUST and UNREACHABLE. -/
theorem test_evaluations_at_robust_and_unreachable :
    (tallied .robust 180 80).judge = ⟨.robust, 0, 1, false⟩ ∧
      (tallied .robust 200 60).judge = ⟨.robust, 0, 0, false⟩ ∧
      (tallied .unreachable 30 2).judge.grade = .robust ∧
      (tallied .unreachable 29 3).judge.grade = .unreachable := by decide

/-- Section 1.6: with P_o = 250,000 phase unit 40 begins 39,062 ticks after the origin. -/
theorem test_phase_and_zone_of_feed_b :
    phaseFrom 39061 250000 255 = 39 ∧ phaseFrom 39062 250000 255 = 40 ∧
      zoneOf [40, 96, 160, 208] 39 = 0 ∧ zoneOf [40, 96, 160, 208] 40 = 1 := by decide

/-- Section 2.3: the durations of slots 1 and 4, and the start of slot 5 with P_o = 249,990. -/
theorem test_window_times_of_feed_b :
    spanTicks 0 (phaseTicks 40 250000) 0 (phaseTicks 160 250000) 250000 = 117188 ∧
      spanTicks 1 (phaseTicks 64 250000) 2 (phaseTicks 96 250000) 250000 = 281250 ∧
      phaseTicks 96 249990 = 93746 := by decide

/-! ### Single steps -/

/-- An outcome's state, the given one where there is none. -/
def after (c : Instr) (s : State) : State :=
  match exec c s with
  | .next t => t
  | _ => s

/-- A state with one MTU in place on feed A. -/
def withMtu (m : Mtu) (now : Nat) : State := { State.reset with now := now, mtu := State.reset.mtu.set .a m }

/-- The MTU of section 1.5 before its last edge. -/
def nearLock : Mtu :=
  { Mtu.reset with
    state := .acquiring
    history := [250100, 249900, 250200, 249700, 250100, 250000, 250000]
    last := some ⟨3190000, .positive, .real⟩
    silence := some 3740000
    offset := 2000 }

/-- Section 1.5: the lock at 3,439,800, with P, the first window and the origin. -/
theorem test_lock_of_the_edge_trace :
    let m := (after (.mainsEdge .a .negative .noticeFirst) (withMtu nearLock 3439800)).mtu.get .a
    m.state = .locked ∧ m.period = 249975 ∧ m.window = some ⟨3685870, 3693680⟩ ∧
      m.pendingOrigin = some ⟨3441800, .negative, 249975⟩ := by decide

/-- The MTU of section 1.5 after the real crossing of 3,690,100. -/
def lockedMtu : Mtu :=
  { Mtu.reset with
    state := .locked
    period := 250000
    history := [249900, 250200, 249700, 250100, 250000, 250000, 249800, 250300]
    last := some ⟨3690100, .positive, .real⟩
    window := some ⟨3936194, 3944006⟩
    originMark := some ⟨3692100, .positive⟩
    originEstimate := 250000
    offset := 2000 }

/-- Section 1.5: the expiry of 3,944,006 gives a late negative origin. -/
theorem test_window_expiry_of_the_edge_trace :
    let m := (after (.acceptanceWindowExpiry .a .noticeFirst) (withMtu lockedMtu 3944006)).mtu.get .a
    m.state = .freeRun ∧ m.missRun = 1 ∧ m.last = some ⟨3940100, .negative, .synthesised⟩ ∧
      m.window = some ⟨4186194, 4194006⟩ ∧ m.pendingOrigin = some ⟨3944006, .negative, 250000⟩ := by decide

/-- R8: an in-band edge outside the window is a deviant. -/
theorem test_deviant_edge_is_counted :
    ((after (.mainsEdge .a .negative .noticeFirst) (withMtu lockedMtu 3945000)).mtu.get .a).deviantRun = 1 := by
  decide

/-- Section 5.10 pattern: the first admission takes entry 3 and generation 1 (R83, R96). -/
def live : State := after (.stationAdd 0 2) State.reset

theorem test_first_admission :
    live.station 3 = ⟨some ⟨.a, 2⟩, 1, 0⟩ ∧ live.mgp.results = [3] ∧ live.mgp.status = 0x0001 := by decide

/-- R82: an address in use is refused IN_USE. -/
theorem test_second_admission_is_refused : (after (.stationAdd 0 2) live).mgp.status = 0x0500 := by decide

/-- R91: a stream from the local station of feed A to station 3 takes record 0. -/
theorem test_stream_is_created :
    (after (.streamCreate 0 3) live).stream 0 = ⟨.active ⟨0, 3⟩, 0⟩ ∧
      ((after (.streamCreate 0 3) live).station 3).refs = 1 := by decide

/-- R84: a station that a stream names is not removed. -/
theorem test_station_in_use_stays :
    (after (.stationRemove 3) (after (.streamCreate 0 3) live)).mgp.status = 0x0500 := by decide

/-- R153: the margin is clamped to 63, the threshold to 1. -/
theorem test_link_set_clamps : (after (.linkSet 6 100 0) live).mgp.results = [63, 1] := by decide

/-- R114: a fresh zone is not valid, and no group has been seen. -/
theorem test_channel_read_of_a_fresh_link :
    (after (.channelRead 6 0 11) live).mgp.results =
      [0, 0, 65535, 65535, 65535, 65535, 65535, 65535, 65535, 65535] := by decide

/-- R61: the position of a feed after reset; no window reads 255. -/
theorem test_position_after_reset :
    (after (.positionRead 2) State.reset).mgp.results = [0, 0, 0, 0, 0, 0, 0, 255] := by decide

/-- R43, R31: after reset the current bank holds no window, and SEQ_START is refused NO_SCHEDULE. -/
theorem test_seq_start_without_a_schedule : (after (.seqStart 0) State.reset).mgp.status = 0x0A00 := by decide

/-- Section 11.5 pattern: a command word in IDLE clears the last outcome; in COLLECTING it is ignored. -/
theorem test_command_word_collects :
    let s := after (.commandWordWrite 0x2002 .atOnce) live
    s.mgp.flagWord = 0x03 ∧ (after (.commandWordWrite 0x5000 .atOnce) s).mgp.flagWord = 0x23 := by decide

/-- R186, R187: the last announced word executes the command it completes. -/
theorem test_words_execute_the_command :
    let s := after (.paramWrite 7 .atOnce)
      (after (.paramWrite 1 .atOnce) (after (.commandWordWrite 0x2002 .atOnce) live))
    s.station 4 = ⟨some ⟨.b, 7⟩, 1, 0⟩ ∧ s.mgp.results = [4] := by decide

/-- R188: a status read in COLLECTING returns BUSY. -/
theorem test_status_read_while_collecting :
    (after .statusRead (after (.commandWordWrite 0x2002 .later) live)).mgp.busOut = 0x0100 := by decide

/-- R191, R192: the event of an unknown address heard is read with its feed, its address and none left behind it. -/
def heardState : State := after (.heard .b 9 35) State.reset

theorem test_heard_event_behind_link_state :
    heardState.mgp.events = [.linkState .b true, .stationHeard .b 35] ∧
      (after .eventRead (after .eventRead heardState)).mgp.results = [1, 1, 35, 0, 0] := by decide

/-- R173, R176, R179: the response of that command is on the line at once, with its TAG and flags 0. -/
theorem test_heard_response_frame :
    ((heardState.clc.get .b).transmitter.sending.map (·.frame)) = some ⟨0x21, 9, 0, [0, 255]⟩ := by decide

/-- R175: with the slot occupied a frame is dropped and DROPPED set. -/
theorem test_second_frame_is_dropped :
    ((after (.positionQuery .b 10) heardState).clc.get .b).dropped = true := by decide

/-- R99, R100: a report opens into buffer 0. -/
def measuring : State := after (.measureOpen .a 1 6 0 11 1) live

theorem test_measure_open :
    (measuring.clc.get .a).buf0 = .filling ⟨6, 1, 0, 11, 1, 11, []⟩ ∧
      (measuring.clc.get .a).report = .open_ .b0 25000 := by decide

/-- The state with the response on the line sent. -/
def answered (s : State) : State := after (.frameEndSent .a .chooseFirst) { s with now := s.now + 1000 }

/-- R101: the last block closes the report, whose buffer joins the fold queue. -/
def closed : State := after (.measureBlock .a 2 11 (Vector.replicate 8 90)) (answered measuring)

theorem test_last_block_closes_the_report :
    closed.planner.foldQueue = [⟨.a, .b0⟩] ∧ ((closed.clc.get .a).slot.map (·.response)) =
      some (.reportClosed 6 0) := by decide

/-- R112: the fold writes the last block's groups. -/
theorem test_fold_reaches_the_records :
    let s := after .foldComplete (after .foldJobTake closed)
    (s.link 6).map (fun k => k.channel.map fun z => (z.valid, z.groups[88], z.groups[87])) =
      some [(true, ⟨360, true⟩, ⟨0, false⟩)] := by decide

/-- R163: a fetch of version 0 is answered MAP_DATA of 56 bytes. -/
def fetched : State := after (.mapFetch .a 3 6 0 0) live

/-- R167, R156, R129: the MAP_DATA of zone 0 of a new link 6: version 0, ROBUST, repetition 4, 1,536, code 2. -/
theorem test_map_data_of_a_new_link :
    fetched.mapData .a = [6, 0, 2, 0, 1, 4, 6, 0] ++ List.replicate 48 0x22 := by decide +kernel

theorem test_map_fetch_sends_56_bytes :
    ((fetched.clc.get .a).transmitter.sending.map fun x => (x.frame.type, x.frame.payload.length)) =
      some (0x23, 56) ∧ fetched.claims.get .a = some ⟨6, 1, 0, .active⟩ := by decide

/-- R141, R142: a report at ROBUST is tallied and answered with the grade. -/
theorem test_delivery_report_is_tallied :
    (((after (.deliveryReport .a 4 6 0 100 3 0) live).clc.get .a).slot.map (·.response)) =
      some (.acceptedDelivery .robust true) := by decide

/-- R174: at the loss deadline the link goes DOWN with an event. -/
theorem test_loss_of_the_link :
    let s := after (.lossDeadlineExpiry .b) { heardState with now := 100000 }
    (s.clc.get .b).link = .down ∧ (s.clc.get .b).dropped = true ∧
      s.mgp.events = [.linkState .b true, .stationHeard .b 35, .linkState .b false] := by decide

/-- R171, R172: the symbols of a POSITION_QUERY bring the link UP and are answered (the CRC is that of R172). -/
theorem test_symbols_of_a_frame :
    ((State.reset.receiveAll .c ([.startSym] ++ (OutFrame.mk 0x17 5 0 []).lineBytes.map .data ++ [.endSym])).clc.get
      .c).slot.map (·.tag) = some 5 := by decide +kernel

/-! ### Witnesses: the whole part -/

/-- A state with a command in its queue. -/
def busy : State := { State.reset with pending := [.stationAdd 0 2] }

theorem witness_StepRunsTheFrontCommand : busy.pending = .stationAdd 0 2 :: [] := rfl

/-- A state in which the Planner has a job to take. -/
def planWaits : State := { live with planner := { live.planner with normal := [⟨6, .plan⟩] } }

theorem witness_IdleStepTakesADueEventOrATick :
    State.reset.pending = [] ∧ State.reset.dueEvents (State.reset.choices + 1) = [] ∧
      planWaits.pending = [] ∧ planWaits.dueEvents (planWaits.choices + 1) = [.planJobTake] :=
  ⟨rfl, rfl, rfl, rfl⟩

theorem witness_EveryCommandAnswersAndKeepsTheQueue : Instr.statusRead ≠ .deviceReset := by decide

theorem busy_steps : ∃ t, step busy = .next t ∧ t.station 3 = ⟨some ⟨.a, 2⟩, 1, 0⟩ :=
  ⟨_, rfl, by decide⟩

theorem busy_link (l : LinkNo) : busy.link l = none := by simp [busy, State.link, State.reset]

theorem busy_station (n : StationIx) (h : 3 ≤ n.val) : busy.station n = ⟨none, 0, 0⟩ := by
  simp only [busy, State.station, State.reset, stationsReset]
  rw [Fin.getElem_fin, Vector.getElem_set_ne, Vector.getElem_set_ne, Vector.getElem_set_ne] <;>
    first | omega | simp

theorem busy_stream (n : StreamNo) : busy.stream n = ⟨.free, 0⟩ := by
  simp [busy, State.stream, State.reset]

theorem witness_StepsKeepThePeriodInBand : busy.MainsSound ∧ ∃ t, step busy = .next t :=
  ⟨fun f => by cases f <;> exact ⟨.inl rfl, by decide, by decide, by decide, by decide, by decide⟩,
    _, rfl⟩

theorem witness_StepsKeepTheDriverSound : busy.DriverSound ∧ ∃ t, step busy = .next t := by
  refine ⟨⟨⟨by decide, by decide, by simp [busy, State.reset, Pda.reset], ?_, ?_, ?_, by decide, by decide, by decide⟩,
    ?_, ?_⟩, _, rfl⟩ <;> intro f <;> cases f <;> decide

/-- A feed whose beacon window is about to start. -/
def starting : State :=
  { State.reset with
    now := 5
    pending := [.windowStart .a]
    csq := State.reset.csq.set .a
      { Csq.reset with
        bank0 := { Bank.reset with count := 1 }
        state := .running
        armed := [⟨0, 5⟩]
        halfCycle := ⟨5, .positive, 250000⟩ } }

theorem witness_DriverSelectChangesOnlyWhileDisabled :
    ∃ t, step starting = .next t ∧ t.pda.drvSel ≠ starting.pda.drvSel := ⟨_, rfl, by decide⟩

theorem low_station (n : StationIx) (h : ¬ 3 ≤ n.val) : n = 0 ∨ n = 1 ∨ n = 2 := by
  simp only [Fin.ext_iff]
  show n.val = 0 ∨ n.val = 1 ∨ n.val = 2
  omega

theorem witness_StepsKeepStationsAndLinksSound :
    (busy.LocalsPresent ∧ busy.LinksMatchStations ∧ busy.AddressesDistinct) ∧ ∃ t, step busy = .next t := by
  refine ⟨⟨fun f => by cases f <;> decide, fun l h => ?_, fun n m f a hn hm => ?_⟩, _, rfl⟩
  · rw [busy_link, busy_station _ (by simp [linkStation]; omega)]
    trivial
  · have key : ∀ n : StationIx, (busy.station n).member = some ⟨f, a⟩ → n = localStation f := by
      intro n hn
      by_cases h : 3 ≤ n.val
      · rw [busy_station n h] at hn
        cases hn
      · have : n = 0 ∨ n = 1 ∨ n = 2 := low_station n h
        obtain rfl | rfl | rfl := this
        · have h0 : (busy.station 0).member = some ⟨.a, 1⟩ := by decide
          rw [h0] at hn
          cases hn
          rfl
        · have h0 : (busy.station 1).member = some ⟨.b, 1⟩ := by decide
          rw [h0] at hn
          cases hn
          rfl
        · have h0 : (busy.station 2).member = some ⟨.c, 1⟩ := by decide
          rw [h0] at hn
          cases hn
          rfl
    rw [key n hn, key m hm]

theorem busy_windows : busy.countedWindows = [] := by decide

theorem busy_references : busy.ReferencesAgree := by
  refine ⟨fun n => ?_, fun n => ?_, fun n h => ?_, fun n h => ?_, fun n e h => ?_⟩
  · rw [busy_stream, busy_windows]
    rfl
  · rw [busy_windows]
    have h0 : busy.streamUses n = 0 := by simp [State.streamUses, busy_stream, StreamState.ends]
    rw [h0]
    by_cases h : 3 ≤ n.val
    · rw [busy_station n h]
      rfl
    · have : n = 0 ∨ n = 1 ∨ n = 2 := low_station n h
      obtain rfl | rfl | rfl := this <;> decide
  · rw [busy_windows] at h
    cases h
  · rw [busy_windows] at h
    cases h
  · rw [busy_stream] at h
    cases h

theorem busy_locals : busy.LocalsPresent := fun f => by cases f <;> decide

theorem witness_StepsKeepReferenceCounts :
    busy.LocalsPresent ∧ busy.ReferencesAgree ∧ ∃ t, step busy = .next t :=
  ⟨busy_locals, busy_references, _, rfl⟩

theorem witness_StepsKeepStreamsFollowingGrades :
    busy.LocalsPresent ∧ busy.LinksMatchStations ∧ busy.ReferencesAgree ∧ busy.StreamsFollowGrades ∧
      ∃ t, step busy = .next t :=
  ⟨busy_locals, witness_StepsKeepStationsAndLinksSound.1.2.1, busy_references,
    (fun n e h => by rw [busy_stream] at h; cases h), _, rfl⟩

theorem witness_StepsKeepSchedulesChecked :
    busy.LocalsPresent ∧ busy.ReferencesAgree ∧ busy.SchedulesChecked ∧ ∃ t, step busy = .next t :=
  ⟨busy_locals, busy_references, fun f => by cases f <;> decide, _, rfl⟩

/-- A state with a COUNTING pending bank on feed A. -/
def counting : State :=
  { State.reset with csq := State.reset.csq.set .a { Csq.reset with pendingState := .counting 2 } }

theorem witness_CurrentBankIsNeverWritten :
    Instr.windowCount 0 3 ≠ .deviceReset ∧ (∃ t, exec (.windowCount 0 3) counting = .next t) ∧
      (counting.csq.get .a).pendingState ≠ .edit := ⟨by decide, ⟨_, rfl⟩, by decide⟩

theorem witness_StepsKeepReportBuffersSound : busy.ReportsSound ∧ ∃ t, step busy = .next t := by
  refine ⟨⟨fun f b => ?_, fun f b => ?_, by decide, fun f b => ?_⟩, _, rfl⟩ <;> cases f <;> cases b <;>
    simp [busy, State.reset, PerFeed.get, PerFeed.all, Clc.reset, Clc.buffer, Buffer.isFilling, Buffer.isFull,
      Buffer.isFolding, Planner.reset]

theorem witness_StepsKeepChannelsAndSetsSound :
    busy.ChannelsSound ∧ busy.SetsSound ∧ (busy.LinksMatchStations ∧ busy.JobNotLapped ∧ busy.ZonesSound) ∧
      ∃ t, step busy = .next t := by
  have none_link : ∀ l k, busy.link l ≠ some k := fun l k h => by rw [busy_link] at h; cases h
  have no_job : busy.planner.engine.job = none := rfl
  have no_claim : ∀ f, busy.claims.get f = none := fun f => by cases f <;> rfl
  refine ⟨fun l k h => absurd h (none_link l k), fun l k h => absurd h (none_link l k),
    ⟨witness_StepsKeepStationsAndLinksSound.1.2.1, fun _ _ h => ?_, fun l k h => absurd h (none_link l k),
      fun _ _ _ h => ?_, fun f _ h => ?_⟩, _, rfl⟩
  · rw [no_job] at h
    cases h
  · rw [no_job] at h
    cases h
  · rw [no_claim f] at h
    cases h

theorem witness_StepsKeepThePlanQueueSound : busy.PlanQueueSound ∧ ∃ t, step busy = .next t :=
  ⟨⟨by decide, by decide, by decide, by decide⟩, _, rfl⟩

theorem witness_StepsKeepQueuesAndSlotsSound :
    busy.QueuesSound ∧ busy.ClaimsMatchSlots ∧ ∃ t, step busy = .next t := by
  refine ⟨⟨fun f => ?_, ⟨by decide, by decide, by decide⟩⟩, fun f => ?_, _, rfl⟩
  · cases f <;> exact ⟨by decide, by decide, List.Pairwise.nil⟩
  · cases f <;> decide

/-! ### Witnesses: the mains, the sequencer and the panel driver -/

/-- The acquiring MTU of section 1.5 with one interval less. -/
def acquiring : Mtu := { nearLock with history := nearLock.history.drop 1 }

/-- Each clause at the edge of its range: intervals of 187,499, 187,500, 275,000 and 275,001. -/
theorem witness_EdgesBeforeLockAreJudged :
    (State.reset.mtu.get .a).state = .absent ∧ acquiring.state = .acquiring ∧
      (withMtu acquiring 0).mtu.get .a = acquiring ∧ acquiring.last = some ⟨3190000, .positive, .real⟩ ∧
      acquiring.history.length < 7 ∧ 3377499 - 3190000 < 187500 ∧ 187500 ≤ 3377500 - 3190000 ∧
      3465000 - 3190000 ≤ 275000 ∧ 275000 < 3465001 - 3190000 ∧ Polarity.negative ≠ .positive := by decide

theorem witness_EighthIntervalLocks :
    (withMtu nearLock 3439800).mtu.get .a = nearLock ∧ nearLock.state = .acquiring ∧
      nearLock.last = some ⟨3190000, .positive, .real⟩ ∧ nearLock.history.length = 7 ∧
      Polarity.negative ≠ .positive ∧ 187500 ≤ 3439800 - 3190000 ∧ 3439800 - 3190000 ≤ 275000 ∧
      249975 = (nearLock.history.sum + (3439800 - 3190000)) / 8 := by decide

/-- The MTU of section 1.5 after the window expiry of 3,944,006. -/
def freeRunning : Mtu :=
  { lockedMtu with
    state := .freeRun
    last := some ⟨3940100, .negative, .synthesised⟩
    window := some ⟨4186194, 4194006⟩
    missRun := 1 }

/-- A real last crossing and a synthesised one, at both ends of their windows. -/
theorem witness_EdgeInTheWindowIsAccepted :
    (lockedMtu.state = .locked ∧ lockedMtu.last = some ⟨3690100, .positive, .real⟩ ∧
        lockedMtu.window = some ⟨3936194, 3944006⟩ ∧ 187500 ≤ 3936194 - 3690100 ∧
        3944006 - 3690100 ≤ 275000 ∧ Polarity.negative ≠ .positive) ∧
      freeRunning.state = .freeRun ∧ freeRunning.last = some ⟨3940100, .negative, .synthesised⟩ ∧
      freeRunning.window = some ⟨4186194, 4194006⟩ ∧ 187500 ≤ 4186194 - 3940100 ∧
      4194006 - 3940100 ≤ 275000 ∧ Polarity.positive ≠ .negative := by decide

/-- A short, a long and two deviant intervals, with the third and the fourth deviant. -/
theorem witness_EdgeOutsideTheWindowIsDeviant :
    lockedMtu.state = .locked ∧ lockedMtu.last = some ⟨3690100, .positive, .real⟩ ∧
      lockedMtu.window = some ⟨3936194, 3944006⟩ ∧ 3877599 - 3690100 < 187500 ∧
      275000 < 3965101 - 3690100 ∧ (187500 ≤ 3936193 - 3690100 ∧ 3936193 < 3936194) ∧
      (3965100 - 3690100 ≤ 275000 ∧ 3944006 < 3965100) ∧ lockedMtu.deviantRun ≠ 3 ∧
      ({ lockedMtu with deviantRun := 3 } : Mtu).deviantRun = 3 := by decide

theorem witness_SilentMainsIsBridgedThenLost :
    ((withMtu nearLock 3740000).mtu.get .a).silence = some 3740000 ∧ nearLock.state = .acquiring ∧
      3740000 ≤ (withMtu nearLock 3740000).now ∧ (withMtu nearLock 3739999).now < 3740000 ∧
      lockedMtu.window = some ⟨3936194, 3944006⟩ ∧ lockedMtu.period = 250000 ∧
      3944006 ≤ (withMtu lockedMtu 3944006).now ∧ (withMtu lockedMtu 3944005).now < 3944006 ∧
      ({ freeRunning with missRun := 48 } : Mtu).missRun < 49 ∧
      ({ freeRunning with missRun := 49 } : Mtu).missRun = 49 := by decide

/-- A feed with an origin and a zone event due, its sequencer in a state. -/
def atOrigin (st : SeqState) (p : Polarity) : State :=
  { withMtu
      { lockedMtu with
        pendingOrigin := some ⟨3692100, p, 250000⟩
        boundaries := [40]
        zonesDue := [⟨1, 40, 3700000⟩] } 3700000 with
    csq := State.reset.csq.set .a { Csq.reset with state := st } }

/-- A COUNTING bank at the last beacon boundary of its countdown. -/
def lastCount : State :=
  { State.reset with csq := State.reset.csq.set .a { Csq.reset with pendingState := .counting 1 } }

/-- A RUNNING feed with a beacon window and a QUIET window at phase 1 of half-cycle 1. -/
def late : State :=
  { starting with
    csq := starting.csq.set .a
      { starting.csq.a with
        bank0 := { Bank.reset with count := 2, slots := Bank.reset.slots.set 1 ⟨1, 1, .quiet⟩ } } }

theorem witness_OriginAndZonesOfAHalfCycle :
    (∀ st p, ((atOrigin st p).mtu.get .a).pendingOrigin = some ⟨3692100, p, 250000⟩ ∧
        3692100 ≤ (atOrigin st p).now ∧ ((atOrigin st p).csq.get .a).state = st ∧
        ((atOrigin st p).mtu.get .a).zonesDue = [⟨1, 40, 3700000⟩] ∧ 3700000 ≤ (atOrigin st p).now) ∧
      SeqState.running ≠ .stopped ∧ (State.reset.csq.get .a).pendingState = .edit ∧
      (counting.csq.get .a).pendingState = .counting 2 ∧ (lastCount.csq.get .a).pendingState = .counting 1 ∧
      ((State.reset.csq.get .a).currentBank.starts 0 5 250000) = [] ∧
      ((late.csq.get .a).currentBank.starts 1 5 250000) = [⟨1, 5 + 1 * 250000 / 256⟩] ∧
      ((late.csq.get .a).currentBank.slot 1).phase.val ≠ 0 ∧
      ((starting.csq.get .a).currentBank.starts 0 5 250000) = [⟨0, 5⟩] ∧
      ((starting.csq.get .a).currentBank.slot 0).phase.val = 0 ∧ (starting.csq.get .a).state = .running ∧
      5 ≤ starting.now :=
  ⟨fun _ _ => ⟨rfl, (by decide : 3692100 ≤ 3700000), rfl, rfl, Nat.le_refl 3700000⟩, by decide⟩

/-- A station and a stream from the local station of feed A to it. -/
def streamed : State := after (.streamCreate 0 3) live

theorem witness_WindowStartPlaysTheWindow :
    (starting.csq.get .a).state = .running ∧ (starting.csq.get .a).armed = [⟨0, 5⟩] ∧ 5 ≤ starting.now ∧
      starting.claimClass .a ((starting.csq.get .a).currentBank.slot 0) = some .beacon ∧
      (starting.csq.get .a).heldClaim = none ∧
      ((after (.windowStart .a) starting).csq.get .a).heldClaim = some .beacon ∧
      late.claimClass .a ((late.csq.get .a).currentBank.slot 1) = none ∧
      (0 : SlotNo).val + 1 = (1 : SlotNo).val ∧ (1 : SlotNo).val < ((late.csq.get .a).currentBank.count).val ∧
      ((late.csq.get .a).currentBank.count).val ≤ (1 : SlotNo).val + 1 ∧
      (streamed.stream 0).state.ends = some ⟨0, 3⟩ ∧ (∀ n, WindowKind.beacon ≠ .reserved n) ∧
      ∀ n, WindowKind.beacon ≠ .probe n := by
  refine ⟨by decide, by decide, by decide, by decide, by decide, by decide, by decide, by decide, by decide,
    by decide, by decide, fun _ h => (nomatch h), fun _ h => (nomatch h)⟩

/-- A claim of a window that started at tick 0. -/
def claimOf (c : DriverClass) (st : ClaimStatus) : ClaimRecord := ⟨c, 0, 0, st⟩

/-- A driver SWITCHING to feed A, with and without its claim, and with feed B waiting. -/
def switching (own other : Option ClaimRecord) (waiting : List Feed) : State :=
  { State.reset with
    now := 2500
    pda := ⟨.switching, some .a, some 2500, none, ⟨own, other, none⟩, waiting⟩ }

/-- A driver ENABLED for feed A, with a claim of feed B and the waiting list. -/
def enabledFor (c : DriverClass) (other : Option ClaimRecord) (waiting : List Feed) : State :=
  { State.reset with
    pda := ⟨.enabled, some .a, none, some ⟨.a, c⟩, ⟨some (claimOf c .holding), other, none⟩, waiting⟩ }

theorem witness_DriverIsSwitchedGrantedAndWaitedFor :
    (∀ own other w, (switching own other w).pda.driver = .switching ∧
        (switching own other w).pda.switchAt = some 2500 ∧ (switching own other w).pda.connected = some .a ∧
        2500 ≤ (switching own other w).now ∧ (switching own other w).pda.waiting = w ∧
        (switching own other w).pda.claims.get .a = own ∧ (switching own other w).pda.claims.get .b = other) ∧
      (∀ c other w, (enabledFor c other w).pda.driver = .enabled ∧
        (enabledFor c other w).pda.holder = some ⟨.a, c⟩ ∧ (enabledFor c other w).pda.connected = some .a ∧
        (enabledFor c other w).pda.claims.get .a = some (claimOf c .holding) ∧
        (enabledFor c other w).pda.claims.get .b = other ∧ (enabledFor c other w).pda.waiting = w) ∧
      (∀ c st, (claimOf c st).cls = c ∧ (claimOf c st).status = st) ∧
      State.reset.pda.driver = .free ∧ State.reset.pda.connected ≠ some .b ∧ State.reset.pda.driver ≠ .switching ∧
      ({ switching none none [] with now := 2499 } : State).now < 2500 ∧
      ({ State.reset.pda with connected := some .b } : Pda).connected = some .b ∧
      State.reset.pda.claims.get .a = none ∧ Feed.b ≠ .a ∧ Feed.b ∉ ([] : List Feed) ∧ some Feed.a ≠ some .b ∧
      classCode (some .soft) < classCode (some .hard) ∧ classCode (some .hard) ≤ classCode (some .hard) ∧
      DriverClass.hard ≠ .soft ∧ DriverClass.beacon ≠ .hard := by
  refine ⟨fun _ _ _ => ⟨rfl, rfl, rfl, Nat.le_refl 2500, rfl, rfl, rfl⟩,
    fun _ _ _ => ⟨rfl, rfl, rfl, rfl, rfl, rfl⟩, fun _ _ => ⟨rfl, rfl⟩, ?_⟩
  decide

/-! ### Witnesses: the management port -/

/-- A state collecting the words of STATION_ADD. -/
def collecting : State := after (.commandWordWrite 0x2002 .later) State.reset

/-- That state with its first word. -/
def oneWord : State := after (.paramWrite 1 .later) collecting

theorem witness_PortWordsAreCollectedOrIgnored :
    collecting.mgp.command ≠ .idle ∧ State.reset.mgp.command = .idle ∧ (0x2002 : Word).toNat % 256 ≠ 0 ∧
      (0x7F00 : Word).toNat % 256 = 0 ∧ CompletionTime.later = .later ∧ State.reset.mgp.events = [] ∧ State.reset.mgp.command ≠ .collecting ∧
      collecting.mgp.command = .collecting ∧
      collecting.mgp.params.length + 1 < collecting.mgp.announced.toNat ∧
      oneWord.mgp.command = .collecting ∧ oneWord.mgp.announced.toNat ≤ oneWord.mgp.params.length + 1 := by
  decide

/-- An unknown code, and a known code with a word too many. -/
theorem witness_CodeAndWordsAreJudged :
    commandKnown (0x7F : Byte).toNat ([] : List Word).length = false ∧
      commandKnown (0x50 : Byte).toNat ([0] : List Word).length = false ∧
      State.reset.mgp.admits 0x7F [] = true ∧ State.reset.mgp.admits 0x50 [0] = true := by decide

theorem witness_PortShowsTheCompletedCommand :
    ([3] : List Word).length < 256 ∧ live.mgp.command = .idle ∧ collecting.mgp.command ≠ .idle ∧
      live.mgp.results[live.mgp.readPos]? = some 3 ∧
      State.reset.mgp.results[State.reset.mgp.readPos]? = none := by decide

theorem witness_EventsAreReadAndMasked :
    State.reset.mgp.admits 0x50 [] = true ∧ State.reset.mgp.events = [] ∧ heardState.mgp.admits 0x50 [] = true ∧
      heardState.mgp.events = [.linkState .b true, .stationHeard .b 35] ∧
      heardState.mgp.admits 0x51 [0xFFFF] = true ∧
      (∀ n : Fin 2, ∀ x, (List.replicate (14 + n.val) (EventRecord.linkState .a true)).getLast? = some x →
        x.isMarker = false) ∧
      (List.replicate 14 (EventRecord.linkState .a true)).length < 15 ∧
      15 ≤ (List.replicate 15 (EventRecord.linkState .a true)).length := by
  refine ⟨by decide, by decide, by decide, by decide, by decide, fun n x h => ?_, by decide, by decide⟩
  have : x ∈ List.replicate (14 + n.val) (EventRecord.linkState .a true) := List.mem_of_getLast? h
  rw [List.eq_of_mem_replicate this]
  rfl

/-- Feeds 3 and 0; feed A with a remote station, or not stopped; each bad field at the end of its range; and
boundaries 40, 96. -/
theorem witness_FeedConfigureAppliesItsFields :
    State.reset.mgp.admits 0x01 [0, 2000, 4, 254, 2, 40, 96, 0, 0, 0] = true ∧ feedOf 3 = none ∧
      feedOf 0 = some .a ∧ live.remoteMember .a = true ∧ (starting.csq.get .a).state ≠ .stopped ∧
      (State.reset.csq.get .a).state = .stopped ∧ State.reset.remoteMember .a = false ∧
      (counting.csq.get .a).state = .stopped ∧ counting.remoteMember .a = false ∧
      (counting.csq.get .a).pendingState ≠ .edit ∧ (State.reset.mtu.get .a).originRec = none ∧
      (State.reset.csq.get .a).pendingState = .edit ∧ (lockedMtu.originRec).isSome = true ∧
      (5 : Word).toNat ∉ [2, 4, 6, 8] ∧ 254 < (255 : Word).toNat ∧ 5 < (6 : Word).toNat ∧
      ¬[40, 40].Pairwise (· < ·) ∧ (8 : Word).toNat ∈ [2, 4, 6, 8] ∧ (254 : Word).toNat ≤ 254 ∧
      [40, 96] = [(40 : Word).toNat, (96 : Word).toNat, 0, 0, 0].take (2 : Word).toNat ∧
      (∀ b ∈ [40, 96], 1 ≤ b ∧ b ≤ 255) ∧ [40, 96].Pairwise (· < ·) := by decide

/-- A stopped feed whose current bank passes, and one whose slot 1 repeats the position of slot 0. -/
def withBank (n : Fin 33) : State :=
  { State.reset with csq := State.reset.csq.set .a { Csq.reset with bank0 := { Bank.reset with count := n } } }

theorem witness_PlaybackIsStartedAndStopped :
    State.reset.mgp.admits 0x03 [0] = true ∧ feedOf 3 = none ∧ feedOf 0 = some .a ∧
      (starting.csq.get .a).state ≠ .stopped ∧ (withBank 0).checkBank .a (withBank 0).csq.a.currentBank = .noSchedule ∧
      (withBank 2).checkBank .a (withBank 2).csq.a.currentBank = .badSchedule 1 ∧
      (withBank 1).checkBank .a (withBank 1).csq.a.currentBank = .pass ∧
      ((withBank 1).csq.get .a).state = .stopped ∧ State.reset.mgp.admits 0x04 [0] = true ∧
      (after (.windowStart .a) starting).csq.a.heldClaim.isSome = true := by decide

theorem witness_FeedRestartRestartsTheFeed :
    State.reset.mgp.admits 0x05 [2] = true ∧ feedOf 3 = none ∧ feedOf 2 = some .c ∧
      State.reset.claims.get .c = none := by decide

theorem witness_WindowEditsReachThePendingBank :
    State.reset.mgp.admits 0x10 [0, 31, 7, 255, 4, 63] = true ∧ feedOf 3 = none ∧ 31 < (32 : Word).toNat ∧
      7 < (8 : Word).toNat ∧ 255 < (256 : Word).toNat ∧ kindOf 5 0 = none ∧ kindOf 4 64 = none ∧
      feedOf 0 = some .a ∧ (31 : Word).toNat = (31 : SlotNo).val ∧ (7 : Word).toNat = (7 : Fin 8).val ∧
      (255 : Word).toNat = (255 : Fin 256).val ∧ kindOf 4 63 = some (.probe 63) ∧
      (State.reset.csq.get .a).pendingState = .edit ∧ (counting.csq.get .a).pendingState ≠ .edit ∧
      State.reset.mgp.admits 0x11 [0, 32] = true ∧ 32 < (33 : Word).toNat ∧
      (32 : Word).toNat = (32 : Fin 33).val := by decide

theorem witness_WindowReadReturnsNineWords :
    State.reset.mgp.admits 0x12 [0, 1, 31] = true ∧ feedOf 3 = none ∧ 1 < (2 : Word).toNat ∧
      31 < (32 : Word).toNat ∧ feedOf 0 = some .a ∧ (31 : Word).toNat = (31 : SlotNo).val ∧
      (0 : Word).toNat = 0 ∧ (1 : Word).toNat = 1 := by decide

/-- A stream to the local station. -/
def inbound : State := after (.streamCreate 3 0) live

theorem witness_ClaimClassFollowsKindAndStream :
    (streamed.stream 1).state = .free ∧ (streamed.stream 0).state = .active ⟨0, 3⟩ ∧ (0 : StationIx) = localStation .a ∧
      (inbound.stream 0).state = .active ⟨3, 0⟩ ∧ (3 : StationIx) ≠ localStation .a ∧
      StreamState.suspended ⟨0, 3⟩ = .suspended ⟨0, 3⟩ ∧ Bank.reset.count.val = 0 ∧
      (∀ n, (withBank n).csq.a.currentBank.count = n ∧ ∀ i, (withBank n).csq.a.currentBank.slot i = ⟨0, 0, .beacon⟩) ∧
      0 < (1 : Fin 33).val ∧ (∀ i : SlotNo, i.val < (1 : Fin 33).val → i.val = 0) ∧
      (1 : SlotNo).val < (2 : Fin 33).val ∧ ¬(0 < 0 ∨ (0 : Fin 8) = 0 ∧ 0 < 0) ∧
      ∀ j : SlotNo, j.val < (1 : SlotNo).val → j.val = 0 := by
  refine ⟨by decide, by decide, by decide, by decide, by decide, by decide, by decide, fun n => ⟨rfl, fun i => ?_⟩,
    by decide, by decide, by decide, by decide, by decide⟩
  show (Vector.replicate 32 (⟨0, 0, .beacon⟩ : Window))[i] = _
  simp

/-- A feed with a bank of one beacon window pending, its sequencer in a state. -/
def pendingBank (n : Fin 33) (st : SeqState) : State :=
  { State.reset with
    csq := State.reset.csq.set .a { Csq.reset with state := st, bank1 := { Bank.reset with count := n } } }

theorem witness_ScheduleIsActivatedAndCancelled :
    State.reset.mgp.admits 0x13 [0, 16] = true ∧ feedOf 3 = none ∧ feedOf 0 = some .a ∧
      (counting.csq.get .a).pendingState ≠ .edit ∧
      (pendingBank 0 .held).checkBank .a (pendingBank 0 .held).csq.a.pendingBank = .noSchedule ∧
      (pendingBank 2 .held).checkBank .a (pendingBank 2 .held).csq.a.pendingBank = .badSchedule 1 ∧
      (pendingBank 1 .held).checkBank .a (pendingBank 1 .held).csq.a.pendingBank = .pass ∧
      ((pendingBank 1 .held).csq.get .a).state ≠ .stopped ∧
      (pendingBank 1 .stopped).checkBank .a (pendingBank 1 .stopped).csq.a.pendingBank = .pass ∧
      ((pendingBank 1 .stopped).csq.get .a).pendingState = .edit ∧
      State.reset.mgp.admits 0x14 [0] = true := by decide

/-! ### Witnesses: stations and streams -/

/-- A full station table. -/
def fullTable : State := { State.reset with stations := Vector.replicate 64 ⟨some ⟨.b, 9⟩, 1, 0⟩ }

theorem witness_StationAddAdmitsAStation :
    State.reset.mgp.admits 0x20 [0, 254] = true ∧ feedOf 3 = none ∧ feedOf 0 = some .a ∧ (0 : Word).toNat = 0 ∧
      254 < (255 : Word).toNat ∧ (254 : Word).toNat ≤ 254 ∧
      (∃ n m, (State.reset.station n).member = some m ∧ m.feed = .a ∧ m.address.toNat = (1 : Word).toNat) ∧
      (∀ n m, (busy.station n).member = some m → m.feed = .a → m.address.toNat ≠ (254 : Word).toNat) ∧
      (∀ n : StationIx, 3 ≤ n.val → (fullTable.station n).member.isSome) ∧
      (∀ n m, (fullTable.station n).member = some m → m.feed = .a → m.address.toNat ≠ (254 : Word).toNat) ∧
      (busy.station 3).member = none ∧
      ∀ m : StationIx, 3 ≤ m.val → m.val < (3 : StationIx).val → (busy.station m).member.isSome := by
  refine ⟨by decide, by decide, by decide, by decide, by decide, by decide, ⟨0, ⟨.a, 1⟩, by decide⟩,
    fun n m h _ => ?_, fun n _ => ?_, fun n m h hf => ?_, by decide, fun m h1 h2 => ?_⟩
  · by_cases hn : 3 ≤ n.val
    · rw [busy_station n hn] at h
      cases h
    · have : n = 0 ∨ n = 1 ∨ n = 2 := low_station n hn
      have h1 : (busy.station n).member.map (·.address) = some 1 := by
        obtain rfl | rfl | rfl := this <;> decide
      rw [h] at h1
      rw [show m.address = 1 from Option.some.inj h1]
      decide
  · simp [fullTable, State.station]
  · simp [fullTable, State.station] at h
    subst h
    cases hf
  · exact absurd h2 (Nat.not_lt.mpr h1)

theorem witness_StationRemoveTearsTheStationDown :
    live.mgp.admits 0x21 [3] = true ∧ (2 : Word).toNat < 3 ∧ 63 < (64 : Word).toNat ∧ 3 ≤ (3 : StationIx).val ∧
      (3 : Word).toNat = (3 : StationIx).val ∧ (State.reset.station 3).member = none ∧
      (streamed.station 3).member.isSome ∧ 0 < (streamed.station 3).refs ∧
      (live.station 3).member = some ⟨.a, 2⟩ ∧ (live.station 3).refs = 0 ∧
      (fetched.station 3).member = some ⟨.a, 2⟩ ∧ (fetched.station 3).refs = 0 ∧
      fetched.claims.get .a = some ⟨6, 1, 0, .active⟩ ∧ linkStation 6 = 3 ∧
      (measuring.station 3).member = some ⟨.a, 2⟩ ∧ (measuring.station 3).refs = 0 ∧
      (measuring.clc.get .a).report = .open_ .b0 25000 ∧
      (measuring.clc.get .a).buffer .b0 = .filling ⟨6, 1, 0, 11, 1, 11, []⟩ ∧
      ((after (.stationAdd 0 5) measuring).station 4).member = some ⟨.a, 5⟩ ∧
      ((after (.stationAdd 0 5) measuring).station 4).refs = 0 ∧ linkStation 6 ≠ 4 := by decide

/-- A full stream table. -/
def fullStreams : State := { live with streams := Vector.replicate 32 ⟨.active ⟨0, 3⟩, 0⟩ }

/-- A stream that windows name. -/
def named : State := { live with streams := Vector.replicate 32 ⟨.active ⟨0, 3⟩, 1⟩ }

theorem witness_StreamsAreCreatedAndDeleted :
    live.mgp.admits 0x23 [0, 3] = true ∧ 63 < (64 : Word).toNat ∧ (0 : Word).toNat = (0 : StationIx).val ∧
      (3 : Word).toNat = (3 : StationIx).val ∧ (State.reset.station 3).member = none ∧
      (live.station 0).member.map (·.feed) ≠ (live.station 1).member.map (·.feed) ∧ live.canStream 0 3 = true ∧
      fullStreams.canStream 0 3 = true ∧ (∀ n, (fullStreams.stream n).state ≠ .free) ∧
      (live.stream 0).state = .free ∧ (∀ m : StreamNo, m.val < (0 : StreamNo).val → (live.stream m).state ≠ .free) ∧
      live.mgp.admits 0x24 [0] = true ∧ 31 < (32 : Word).toNat ∧
      (named.stream 0).state.ends = some ⟨0, 3⟩ ∧ 0 < (named.stream 0).refs ∧
      (streamed.stream 0).state.ends = some ⟨0, 3⟩ ∧ (streamed.stream 0).refs = 0 ∧
      (0 : StationIx) ≠ 3 := by
  refine ⟨by decide, by decide, by decide, by decide, by decide, by decide, by decide, by decide, fun n => ?_,
    by decide, fun m h => absurd h (Nat.not_lt_zero _), by decide, by decide, by decide, by decide, by decide, by decide,
    by decide⟩
  simp [fullStreams, State.stream]

theorem witness_StationAndStreamReadsReturnTheirWords :
    live.mgp.admits 0x22 [3] = true ∧ 63 < (64 : Word).toNat ∧ (3 : Word).toNat = (3 : StationIx).val ∧
      (live.station 3).member = some ⟨.a, 2⟩ ∧ (63 : Word).toNat = (63 : StationIx).val ∧
      (live.station 63).member = none ∧ streamed.mgp.admits 0x25 [0] = true ∧ 31 < (32 : Word).toNat ∧
      (31 : Word).toNat = (31 : StreamNo).val ∧ (streamed.stream 31).state = .free ∧
      (streamed.stream 0).state.ends = some ⟨0, 3⟩ := by decide

theorem witness_HeardIsAnsweredFromTheTable :
    (live.clc.get .a).slot = none ∧ (1 : Byte) ≠ 0 ∧ (1 : Byte) ≠ 255 ∧
      live.holderOf .a (1 : Byte).toNat = some 0 ∧ (0 : StationIx).val < 3 ∧ live.holderOf .a (2 : Byte).toNat = some 3 ∧
      3 ≤ (3 : StationIx).val ∧ live.holderOf .a (254 : Byte).toNat = none := by decide

/-! ### Witnesses: measurement and planning -/

/-- Cycle link A with no report open, and with its buffers in use. -/
def buffersFull : State :=
  { live with
    clc := live.clc.set .a
      { live.clc.a with buf0 := .full ⟨6, 1, 0, 0, 1, 1, []⟩, buf1 := .full ⟨6, 1, 0, 0, 1, 1, []⟩ } }

theorem noReport (a : BufNo) (gap : Nat) : (live.clc.get .a).report ≠ .open_ a gap := by
  have h : (live.clc.get .a).report = .idle := by decide
  simp [h]

/-- The report of section measuring, its response sent. -/
theorem witness_MeasureOpenStartsAReport :
    (live.clc.get .a).slot = none ∧ ((answered measuring).clc.get .a).slot = none ∧
      ((answered measuring).clc.get .a).report = .open_ .b0 25000 ∧
      (∀ a gap, (live.clc.get .a).report ≠ .open_ a gap) ∧ (buffersFull.clc.get .a).freeBuffer = none ∧
      (live.clc.get .a).freeBuffer = some .b0 ∧ live.linkOn .a 5 = none ∧ live.linkOn .a 128 = none ∧
      ((live.linkOn .a 7).map (·.1)) = some 7 ∧ live.zoneCount .a ≤ (1 : Byte).toNat ∧
      11 < (12 : Byte).toNat ∧ 12 < (13 : Byte).toNat ∧ 12 < (11 : Byte).toNat + (2 : Byte).toNat ∧
      (0 : Byte).toNat < live.zoneCount .a ∧ (11 : Byte).toNat + (1 : Byte).toNat ≤ 12 := by
  refine ⟨by decide, by decide, by decide, noReport, ?_⟩
  decide

theorem witness_MeasureBlockExtendsTheReport :
    ((answered measuring).clc.get .a).slot = none ∧
      ((answered measuring).clc.get .a).report = .open_ .b0 25000 ∧
      ((answered measuring).clc.get .a).buffer .b0 = .filling ⟨6, 1, 0, 11, 1, 11, []⟩ ∧
      (11 : Byte).toNat = 11 ∧ 11 + 1 ≤ 11 + 1 ∧ (12 : Byte).toNat ≠ 11 ∧
      ((answered (after (.measureOpen .a 1 6 0 0 12) live)).clc.get .a).buffer .b0 =
        .filling ⟨6, 1, 0, 0, 12, 0, []⟩ ∧ 0 + 1 < 0 + 12 ∧ (live.clc.get .a).report = .idle ∧
      ((after (.stationRemove 3) (answered measuring)).clc.get .a).report = .removed ∧
      ((after (.stationRemove 3) (answered measuring)).clc.get .a).slot = none ∧
      (live.clc.get .a).slot = none := by decide

theorem witness_AbortAndGapEndTheReport :
    ((answered measuring).clc.get .a).slot = none ∧
      ((answered measuring).clc.get .a).report = .open_ .b0 25000 ∧
      ((answered measuring).clc.get .a).buffer .b0 = .filling ⟨6, 1, 0, 11, 1, 11, []⟩ ∧
      ((answered measuring).clc.get .a).buffer .b1 = .free ∧
      25000 ≤ ({ answered measuring with now := 25000 } : State).now ∧
      ({ answered measuring with now := 24999 } : State).now < 25000 ∧ (live.clc.get .a).slot = none ∧
      ∀ a gap, (live.clc.get .a).report ≠ .open_ a gap := by
  refine ⟨by decide, by decide, by decide, by decide, by decide, by decide, by decide, noReport⟩

/-- The fold of the closed report in hand, and the same once the station has been removed. -/
def folding : State := after .foldJobTake closed

theorem witness_ReportsAreFoldedIntoTheRecords :
    closed.planner.engine = .idle ∧ closed.planner.foldQueue = ⟨.a, .b0⟩ :: [] ∧
      (closed.clc.get .a).buffer .b0 = .full ⟨6, 1, 0, 11, 1, 12, [90, 90, 90, 90, 90, 90, 90, 90]⟩ ∧
      folding.planner.engine = .folding ⟨.a, .b0⟩ ∧
      (folding.clc.get .a).buffer .b0 = .folding ⟨6, 1, 0, 11, 1, 12, [90, 90, 90, 90, 90, 90, 90, 90]⟩ ∧
      ((folding.link 6).map (·.record.generation)) = some 1 ∧
      (after (.stationRemove 3) folding).link 6 = none ∧ (⟨300, true⟩ : GroupRecord).seen = true ∧
      4 * 75 = 300 + 0 ∧ (⟨0, false⟩ : GroupRecord).seen = false ∧
      ([90, 91] : List Byte)[89 - 8 * 11]? = some 91 ∧ 8 * 11 ≤ (89 : Fin 96).val ∧
      (87 : Fin 96).val < 8 * 11 ∧ 8 * 11 + 2 ≤ (90 : Fin 96).val ∧
      ((folding.link 6).map fun k => (k.channel.map (·.sincePlan), k.record.threshold)) = some ([0], 4) ∧
      min (0 + 1) 15 < 4 ∧ (((after (.linkSet 6 8 1) folding).link 6).map (·.record.threshold)) = some 1 ∧
      1 ≤ min (0 + 1) 15 ∧ folding.planner.urgent ++ folding.planner.normal = [] ∧
      (after (.planNow 6) folding).planner.urgent ++ (after (.planNow 6) folding).planner.normal = [⟨6, .plan⟩] := by
  decide

/-- A link at a grade, in the place of link 6. -/
def graded (g : Grade) : State :=
  { live with
    links := live.links.set 6
      ((live.links[6]).map fun k => { k with record := { k.record with grade := g } }) }

/-- A plan job waiting for link 6 at a grade. -/
def planFor (g : Grade) (urgent normal : List PlanEntry) : State :=
  { graded g with planner := ⟨.idle, [], urgent, normal⟩ }

theorem witness_PlanJobsAreTakenInOrder :
    (∀ g u n, (planFor g u n).planner.engine = .idle ∧ (planFor g u n).planner.foldQueue = [] ∧
        (planFor g u n).planner.urgent = u ∧ (planFor g u n).planner.normal = n) ∧
      (((planFor .full [⟨6, .notch⟩] []).link 6).map (·.record.grade)) = some .full ∧
      (((planFor .unreachable [] [⟨6, .plan⟩]).link 6).map (·.record.grade)) = some .unreachable ∧
      Cause.notch ≠ .plan ∧ folding.planner.engine ≠ .idle ∧ closed.planner.foldQueue ≠ [] ∧
      live.planner.urgent = [] ∧ live.planner.normal = [] :=
  ⟨fun _ _ _ => ⟨rfl, rfl, rfl, rfl⟩, by decide, by decide, by decide, by decide, by decide, by decide, by decide⟩

/-- A job of link 6 at FULL, computed with one ROBUST zone. -/
def jobFor6 (c : Cause) : PlanJob := ⟨6, c, 1, .full, 8, 0⟩

/-- A state with that job computed, and with a fetch claim on its link. -/
def computed (c : Cause) (g : Grade) : State :=
  { graded g with planner := ⟨.planning (jobFor6 c) [robustMap 0], [], [], []⟩ }

/-- A link with a NEXT set, its countdown 2 and cause NOTCH. -/
def staged : State := after .planComputeEnd (computed .notch .full)

/-- A job of link 6 that waits for the claim of cycle link A, with a claim of cycle link B. -/
def heldBack (other : Option FetchClaim) : State :=
  { graded .full with
    planner := ⟨.waitingClaim (jobFor6 .plan) [robustMap 0], [], [], []⟩
    claims := ⟨some ⟨6, 1, 0, .active⟩, other, none⟩ }

theorem witness_ComputedPlanWaitsOrCompletes :
    (∀ c g, (computed c g).planner.engine = .planning (jobFor6 c) [robustMap 0]) ∧
      (∃ f c, ({ computed .plan .full with claims := ⟨some ⟨6, 1, 0, .active⟩, none, none⟩ } : State).claims.get f =
        some c ∧ c.link = (jobFor6 .plan).link) ∧
      (∀ f c, (computed .plan .full).claims.get f = some c → c.link ≠ (jobFor6 .plan).link) ∧
      (((computed .plan .robust).link 6).map fun k => decide (k.record.grade ≠ .full)) = some true ∧
      (((computed .notch .full).link 6).map fun k => (k.record.grade, k.record.generation, k.next)) =
        some (.full, 1, none) ∧
      ((staged.link 6).map fun k => k.next.isSome) = some true ∧
      (((computed .plan .full).link 6).map fun k => k.held.map (·.rawCapacity)) = some [1536] ∧
      worthPublishing [robustMap 0] [robustMap 0] = false ∧
      worthPublishing [{ robustMap 0 with rawCapacity := 1636 }] [robustMap 0] = true ∧
      (live.planner.engine = .idle ∧ fetched.planner.engine = .idle) ∧ live.claims.get .a = none ∧
      fetched.claims.get .a = some ⟨6, 1, 0, .active⟩ ∧
      (heldBack none).planner.engine = .waitingClaim (jobFor6 .plan) [robustMap 0] ∧
      (heldBack none).claims.get .a = some ⟨6, 1, 0, .active⟩ ∧ (jobFor6 .plan).link = 6 ∧
      (jobFor6 .plan).generation = 1 ∧ (heldBack (some ⟨6, 2, 0, .active⟩)).claims.get .b = some ⟨6, 2, 0, .active⟩ ∧
      (2 : Byte) ≠ 1 ∧ (heldBack (some ⟨7, 1, 0, .active⟩)).claims.get .b = some ⟨7, 1, 0, .active⟩ ∧
      (7 : LinkNo) ≠ 6 := by
  refine ⟨fun _ _ => rfl, ⟨.a, ⟨6, 1, 0, .active⟩, rfl, rfl⟩, fun f c h => ?_, by decide, by decide, by decide,
    by decide +kernel, by decide +kernel, by decide +kernel, by decide, by decide, by decide, by decide, by decide,
    by decide, by decide, by decide, by decide, by decide, by decide⟩
  have hn : (computed .plan .full).claims.get f = none := by cases f <;> rfl
  rw [hn] at h
  cases h

/-- A valid zone whose groups all stand at 22.5 dB. -/
def loudZone : ZoneRecord := ⟨true, 1, Vector.replicate 96 ⟨360, true⟩⟩

theorem witness_PlansLoadGroupsByTheTable :
    (maskOfWords 1 0 0 0 0 0).getLsbD 0 = true ∧ (jobFor6 .plan).grade = .full ∧
      (0 < [ZoneRecord.cleared].length) ∧ ({ jobFor6 .plan with grade := .robust } : PlanJob).grade = .robust ∧
      openGroups 0 ≠ 0 ∧ loudZone.valid = true ∧ 4 * openGroups 0 ≤ rawCapacity (adaptiveCodes 0 8 loudZone) ∧
      rawCapacity (adaptiveCodes 0 63 { loudZone with groups := Vector.replicate 96 ⟨300, true⟩ }) < 4 * openGroups 0 ∧
      ZoneRecord.cleared.valid = false ∧ openGroups (BitVec.allOnes 96) = 0 ∧
      (planFor .full [⟨6, .notch⟩] []).planner.engine = .idle ∧
      (match (after .planJobTake (planFor .full [⟨6, .notch⟩] [])).planner.engine with
        | .planning job zones => some (job.link, job.grade, zones.length)
        | _ => none) = some (6, .full, 1) := by
  refine ⟨by decide, by decide, by decide, by decide, by decide +kernel, by decide, by decide +kernel,
    by decide +kernel, by decide, by decide +kernel, by decide, by decide +kernel⟩

theorem witness_PlansAreOfferedByNotchAndCommand :
    live.mgp.admits 0x02 [0, 1, 0, 0, 0, 0, 0x8000] = true ∧ feedOf 3 = none ∧ feedOf 0 = some .a ∧
      live.liveOn .a 6 = true ∧ live.mgp.admits 0x33 [6] = true ∧ 127 < (128 : Word).toNat ∧
      (5 : Word).toNat = (5 : LinkNo).val ∧ live.link 5 = none ∧ (6 : Word).toNat = (6 : LinkNo).val ∧
      (live.link 6).isSome = true ∧ live.planner.urgent ++ live.planner.normal = [] ∧
      planWaits.planner.urgent ++ planWaits.planner.normal = [⟨6, .plan⟩] := by decide

/-! ### Witnesses: links and frames -/

theorem witness_LinkSetClampsAndWrites :
    live.mgp.admits 0x30 [6, 64, 16] = true ∧ 127 < (128 : Word).toNat ∧ (5 : Word).toNat = (5 : LinkNo).val ∧
      live.link 5 = none ∧ (6 : Word).toNat = (6 : LinkNo).val ∧ (live.link 6).isSome = true ∧
      63 < (64 : Word).toNat ∧ 15 < (16 : Word).toNat ∧ (0 : Word).toNat = 0 := by decide

theorem witness_LinkReadsReturnTheirWords :
    live.mgp.admits 0x31 [6] = true ∧ live.mgp.admits 0x32 [6, 1, 0] = true ∧
      live.mgp.admits 0x34 [6, 0, 11] = true ∧ 127 < (128 : Word).toNat ∧ 1 < (2 : Word).toNat ∧
      5 < (6 : Word).toNat ∧ 11 < (12 : Word).toNat ∧ (5 : Word).toNat = (5 : LinkNo).val ∧ live.link 5 = none ∧
      (6 : Word).toNat = (6 : LinkNo).val ∧ (live.link 6).isSome = true ∧
      live.zoneCount .a ≤ (1 : Word).toNat ∧ (0 : Word).toNat < live.zoneCount .a ∧
      ((live.link 6).map fun k => (k.record.feed, decide (k.next = none), k.active.zones.length, k.channel.length)) =
        some (.a, true, 1, 1) ∧
      ((staged.link 6).map fun k => k.next.map fun n => (n.countdown, n.maps.zones.length)) = some (some (2, 1)) := by
  decide

theorem witness_PositionIsThatOfTheMoment :
    State.reset.mgp.admits 0x40 [0] = true ∧ feedOf 3 = none ∧ feedOf 0 = some .a ∧
      (State.reset.mtu.get .a).originRec = none ∧ (State.reset.clc.get .a).slot = none ∧
      ((withMtu lockedMtu 3731162).mtu.get .a).originRec = some ⟨3692100, .positive, 250000⟩ ∧
      40 * 250000 / 256 ≤ 3731162 - 3692100 ∧
      (∀ u, 40 < u → u ≤ 255 → 3731162 - 3692100 < u * 250000 / 256) := by
  refine ⟨by decide, by decide, by decide, by decide, by decide, by decide, by decide, fun u h1 h2 => ?_⟩
  omega

theorem witness_MapFetchClaimsASet :
    (live.clc.get .a).slot = none ∧ live.linkOn .a 5 = none ∧ ((live.linkOn .a 6).map (·.1)) = some 6 ∧
      ((live.linkOn .a 6).map fun p => (p.2.active.version, decide (p.2.next = none))) = some (0, true) ∧
      (1 : Byte).toNat ≠ (0 : BitVec 4).toNat ∧ (0 : Byte).toNat = (0 : BitVec 4).toNat ∧
      ((staged.linkOn .a 6).map fun p => p.2.next.map (·.maps.version)) = some (some 1) ∧
      (staged.clc.get .a).slot = none ∧ live.zoneCount .a ≤ (1 : Byte).toNat ∧
      (0 : Byte).toNat < live.zoneCount .a ∧ live.link 5 = none ∧
      ((live.link 6).map fun k => decide (k.next = none)) = some true ∧
      ((staged.link 6).map fun k => k.next.map (·.countdown)) = some (some 2) ∧ 1 < 2 ∧
      (((staged.countLink 6).link 6).map fun k => k.next.map (·.countdown)) = some (some 1) ∧
      fetched.claims.get .a = some ⟨6, 1, 0, .active⟩ ∧
      ((fetched.link 6).map fun k => k.active.zones[0]?) = some (some (robustMap 0)) ∧
      ((staged.link 6).map fun k => k.next.map (·.maps.zones[0]?)) = some (some (some (robustMap 0))) ∧
      (⟨6, 1, 0, .kept ⟨0, .robust, [robustMap 0]⟩⟩ : FetchClaim).named = .kept ⟨0, .robust, [robustMap 0]⟩ ∧
      (95 : Fin 96).val = 2 * (47 : Fin 48).val + 1 := by decide

theorem witness_DeliveryReportIsTalliedAndEvaluated :
    (live.clc.get .a).slot = none ∧ live.linkOn .a 5 = none ∧ ((live.linkOn .a 6).map (·.1)) = some 6 ∧
      live.zoneCount .a ≤ (1 : Byte).toNat ∧ 1023 < (1024 : Word).toNat ∧ (0 : Byte).toNat < live.zoneCount .a ∧
      (1023 : Word).toNat ≤ 1023 ∧ (((graded .unreachable).linkOn .a 6).map (·.2.record.grade)) = some .unreachable ∧
      (0xFE : Byte).getLsbD 0 = false ∧ (1 : Byte).getLsbD 0 = true ∧
      (((graded .full).linkOn .a 6).map (·.2.record.grade)) = some .full ∧ 200 + 55 < 256 ∧ 256 ≤ 200 + 56 ∧
      10 + 21 < 32 ∧ 32 ≤ 10 + 22 ∧ (tallied .full 250 6).evaluated.grade = .full ∧
      (tallied .full 200 56).evaluated.grade ≠ .full := by decide

/-- Each test at the edge of its range: 256 with 4 and 5, 32 and 33, 64 and 65, and 16 and 17 failures. -/
theorem witness_EvaluationFollowsTheLadder :
    (tallied .full 0 0).grade = .full ∧ (tallied .guarded 0 0).grade = .guarded ∧ 256 < 33 * 8 ∧ 4 * 64 ≤ 256 ∧
      (tallied .full 252 4).goodRun ≠ 3 ∧ ({ tallied .full 252 4 with goodRun := 3 } : LinkRecord).goodRun = 3 ∧
      256 < 5 * 64 ∧ 32 * 8 ≤ 256 ∧ 256 < 65 * 4 ∧ 64 * 4 ≤ 256 ∧ (tallied .robust 191 65).badRun ≠ 1 ∧
      ({ tallied .robust 191 65 with badRun := 1 } : LinkRecord).badRun = 1 ∧
      (tallied .unreachable 30 2).grade = .unreachable ∧ 2 * 16 ≤ 32 ∧
      live.link 5 = none ∧ (live.link 6).isSome = true ∧ min (15 + 1) 16 = 16 ∧ min (14 + 1) 16 < 16 ∧
      32 ≤ (tallied .full 30 2).ok + (tallied .full 30 2).failed ∧
      (tallied .full 29 2).ok + (tallied .full 29 2).failed < 32 ∧
      (tallied .full 256 0).evaluated.grade = .full ∧ (tallied .full 0 256).evaluated.grade = .guarded ∧
      (streamed.stream 0).state = .active ⟨0, 3⟩ ∧ StreamEnds.link ⟨0, 3⟩ = some 6 ∧
      (∀ e ∈ (planFor .full [] []).planner.urgent, e.link ≠ 6) ∧
      ∃ e ∈ (planFor .full [⟨6, .notch⟩] []).planner.urgent, e.link = 6 := by decide

/-- Unknown types, and known types of a wrong length. -/
theorem witness_GoodFramesAreTakenRefusedOrDropped :
    (live.clc.get .a).slot = none ∧ frameKnown (0x21 : Byte).toNat ([] : List Byte).length = false ∧
      frameKnown (0x14 : Byte).toNat ([0] : List Byte).length = false ∧
      frameKnown (0x18 : Byte).toNat ([] : List Byte).length = false ∧ (heardState.clc.get .b).slot ≠ none := by
  decide

theorem witness_DiscardedFramesLeaveTheRest :
    (State.reset.clc.get .a).link = .down ∧ (heardState.clc.get .b).link = .up 100000 ∧
      CodeGroup.endSym ≠ .startSym := by decide

/-- The register of R172 over the bits of a byte, started at 0xFFFF. -/
def crcRegister (b : Byte) : Nat → Word
  | 0 => 0xFFFF
  | i + 1 =>
      if (crcRegister b i).getLsbD 15 = b.getLsbD (7 - i) then crcRegister b i <<< 1
      else (crcRegister b i <<< 1) ^^^ 0x1021

/-- A receiver waiting, one short of LEN, and one short of its last CRC byte; frames whose CRC checks, with their
complement (POSITION_QUERY) and without, and one whose CRC does not; a frame with the longest payload. The CRCs are
worked by hand from R172. -/
theorem witness_ReceivedSymbolsSpellTheFrame :
    (State.reset.clc.get .a).receiver = .waiting ∧ (State.reset.clc.get .a).link = .down ∧
      (heardState.clc.get .b).link = .up 100000 ∧ CodeGroup.idleSym ≠ .startSym ∧ CodeGroup.idleSym ≠ .invalid ∧
      ([0x17, 0xE8, 5, 0] : List Byte).length < 5 ∧ ([0x17, 0xE8, 5, 0, 0, 1] : List Byte)[4]? = some 0 ∧
      ([0x17, 0xE8, 5, 0, 0, 1] : List Byte).length < (0 : Byte).toNat + 7 ∧
      (∀ bytes, ((State.reset.setReceiver .a (.collecting bytes)).clc.get .a).receiver = .collecting bytes) ∧
      ([] : List Byte).length = (0 : Byte).toNat ∧ (0x98 : Byte) ++ (0x5B : Byte) = crc [0x17, 0xE8, 5, 0, 0] ∧
      (0xE8 : Byte) = ~~~0x17 ∧ (0x98 : Byte) ++ (0x5A : Byte) ≠ crc [0x17, 0xE8, 5, 0, 0] ∧
      (0xD3 : Byte) ++ (0xF8 : Byte) = crc [0x17, 0x17, 5, 0, 0] ∧ (0x17 : Byte) ≠ ~~~0x17 ∧
      crcRegister 0x31 0 = crc [] ∧
      (∀ i < 8, crcRegister 0x31 (i + 1) =
        if (crcRegister 0x31 i).getLsbD 15 = (0x31 : Byte).getLsbD (7 - i) then crcRegister 0x31 i <<< 1
        else (crcRegister 0x31 i <<< 1) ^^^ 0x1021) ∧
      (OutFrame.mk 0x30 1 0 (List.replicate 255 0)).payload.length ≤ 255 := by
  refine ⟨by decide, by decide, by decide, by decide, by decide, by decide, by decide, by decide, fun _ => rfl,
    by decide, by decide +kernel, by decide, by decide +kernel, by decide +kernel, by decide, rfl, fun _ _ => rfl, ?_⟩
  exact Nat.le_of_eq List.length_replicate

theorem witness_LossTakesTheLinkDown :
    (State.reset.clc.get .b).link = .down ∧ (heardState.clc.get .b).link = .up 100000 ∧
      ({ heardState with now := 99999 } : State).now < 100000 ∧
      100000 ≤ ({ heardState with now := 100000 } : State).now ∧ heardState.claims.get .b = none ∧
      (fetched.clc.get .a).link = .up 100000 ∧ (fetched.claims.get .a).isSome = true ∧
      (fetched.clc.get .a).generalLost = false ∧ (fetched.clc.get .a).general = [] ∧
      ({ heardState.clc.get .b with generalLost := true } : Clc).generalLost = true := by decide

/-- The response of a fetch on the line; the same line with each source of a next frame. -/
theorem witness_FrameEndFreesTheLineAndChooses :
    ((fetched.clc.get .a).transmitter.sending.map fun x => (x.source, x.endAt)) = some (.response, 260) ∧
      (fetched.clc.get .a).link = .up 100000 ∧ fetched.now < 260 ∧
      260 ≤ ({ fetched with now := 260 } : State).now ∧ (fetched.claims.get .a).isSome = true ∧
      ((heardState.clc.get .b).transmitter.sending.map fun x => (x.source, x.endAt)) = some (.response, 44) ∧
      heardState.claims.get .b = none ∧ (heardState.clc.get .b).timing = [] ∧
      (heardState.clc.get .b).general = [] ∧
      ({ heardState.clc.get .b with general := [.mapSwitched 6 0 .full] } : Clc).general = [.mapSwitched 6 0 .full] ∧
      ({ heardState.clc.get .b with timing := [.zone 0 .positive 0 0 1] } : Clc).timing =
        [.zone 0 .positive 0 0 1] ∧
      FrameSource.general ≠ .response ∧ (⟨9, .accepted, false⟩ : Slot).begun = false ∧
      (State.reset.clc.get .b).link = .down ∧ (State.reset.clc.get .b).transmitter.sending = none ∧
      ((after (.frameEndSent .b .chooseFirst) { heardState with now := 44 }).clc.get .b).transmitter.sending = none ∧
      ((after (.frameEndSent .b .chooseFirst) { heardState with now := 44 }).clc.get .b).link = .up 100000 ∧
      (List.replicate 7 (TimingNotice.zone 0 .positive 0 0 1)).length < 8 ∧
      8 ≤ (List.replicate 8 (TimingNotice.zone 0 .positive 0 0 1)).length ∧
      (List.replicate 7 (GeneralNotice.mapSwitched 6 0 .full)).length < 8 ∧
      8 ≤ (List.replicate 8 (GeneralNotice.mapSwitched 6 0 .full)).length ∧
      [GeneralNotice.mapSwitched 6 0 .full, .mapNext 6 1 2 .plan] =
        [.mapSwitched 6 0 .full] ++ .mapNext 6 1 2 .plan :: [] := by decide

end Sys2Proof.Tests
end

