-- ==== Sys2Proof/Proofs/WindowSchedule.lean ====
section
/-! Chapter 2, the window schedule: the claim class of a window (R23) and the schedule check of a bank (R31). -/
namespace Sys2Proof.Machine

/-! ### Claim classes (R23) -/

@[simp] theorem State.claimClass_beacon (s : State) (f : Feed) (h : Fin 8) (p : Fin 256) :
    s.claimClass f ⟨h, p, .beacon⟩ = some .beacon := rfl

@[simp] theorem State.claimClass_probe (s : State) (f : Feed) (h : Fin 8) (p : Fin 256) (m : StationIx) :
    s.claimClass f ⟨h, p, .probe m⟩ = some .hard := rfl

@[simp] theorem State.claimClass_shared (s : State) (f : Feed) (h : Fin 8) (p : Fin 256) :
    s.claimClass f ⟨h, p, .shared⟩ = some .soft := rfl

@[simp] theorem State.claimClass_quiet (s : State) (f : Feed) (h : Fin 8) (p : Fin 256) :
    s.claimClass f ⟨h, p, .quiet⟩ = none := rfl

theorem State.claimClass_reserved_of_free {s : State} (f : Feed) (h : Fin 8) (p : Fin 256) {n : StreamNo}
    (hs : (s.stream n).state = .free) : s.claimClass f ⟨h, p, .reserved n⟩ = none := by
  simp only [State.claimClass, hs]

theorem State.claimClass_reserved_of_suspended {s : State} (f : Feed) (h : Fin 8) (p : Fin 256) {n : StreamNo}
    {e : StreamEnds} (hs : (s.stream n).state = .suspended e) : s.claimClass f ⟨h, p, .reserved n⟩ = none := by
  simp only [State.claimClass, hs]

theorem State.claimClass_reserved_of_active {s : State} (f : Feed) (h : Fin 8) (p : Fin 256) {n : StreamNo}
    {e : StreamEnds} (hs : (s.stream n).state = .active e) :
    s.claimClass f ⟨h, p, .reserved n⟩ = if e.transmitter = localStation f then some .hard else none := by
  simp only [State.claimClass, hs]

/-! ### The conditions on one slot (R31) -/

theorem State.memberOn_iff {s : State} {n : StationIx} {f : Feed} :
    s.memberOn n f = true ↔ (s.station n).member.map (·.feed) = some f := by
  unfold State.memberOn
  cases (s.station n).member <;> simp

theorem Window.before_iff {w v : Window} :
    w.before v = true ↔ w.half.val < v.half.val ∨ w.half = v.half ∧ w.phase.val < v.phase.val := by
  simp [Window.before]

/-- The slot before slot i is the j with i = j + 1; slot 0 has none. -/
theorem Bank.positionPasses_iff {b : Bank} {beaconLen : Nat} {i : SlotNo} :
    b.positionPasses beaconLen i = true ↔
      (i.val = 0 → (b.slot i).kind = .beacon ∧ (b.slot i).half.val = 0 ∧ (b.slot i).phase.val = 0) ∧
      ∀ j : SlotNo, i.val = j.val + 1 →
        (b.slot i).half.val < beaconLen ∧ (b.slot j).before (b.slot i) = true := by
  by_cases hi : i.val = 0
  · simp [Bank.positionPasses, hi, and_assoc]
  · have slot_before : ∀ j : SlotNo, i.val = j.val + 1 ↔ j = ⟨i.val - 1, by omega⟩ := fun j => by
      rw [Fin.ext_iff]
      show _ ↔ j.val = i.val - 1
      omega
    rw [Bank.positionPasses, dif_neg hi]
    simp only [slot_before, forall_eq, hi, false_implies, true_and, Bool.and_eq_true, decide_eq_true_eq]

theorem State.targetPasses_iff {s : State} {f : Feed} {k : WindowKind} :
    s.targetPasses f k = true ↔
      (∀ n, k = .reserved n → ∃ e, (s.stream n).state.ends = some e ∧
        s.memberOn e.transmitter f = true ∧ s.memberOn e.receiver f = true) ∧
      ∀ n, k = .probe n → 3 ≤ n.val ∧ s.memberOn n f = true := by
  cases k with
  | reserved n => cases he : (s.stream n).state.ends <;> simp [State.targetPasses, he]
  | probe n => simp [State.targetPasses]
  | beacon | shared | quiet => simp [State.targetPasses]

theorem State.slotPasses_iff {s : State} {f : Feed} {b : Bank} {beaconLen : Nat} {i : SlotNo} :
    s.slotPasses f b beaconLen i = true ↔
      b.positionPasses beaconLen i = true ∧ s.targetPasses f (b.slot i).kind = true := by
  simp only [State.slotPasses, Bool.and_eq_true]

/-! ### The schedule check (R31) -/

@[simp] theorem Bank.mem_slotList {b : Bank} {i : SlotNo} : i ∈ b.slotList ↔ i.val < b.count.val := by
  simp [Bank.slotList]

/-- The windows stand in slot order, so a search finds the one with the lowest slot number. -/
theorem Bank.find?_slotList_of_first {b : Bank} {p : SlotNo → Bool} {i : SlotNo} (hi : i.val < b.count.val)
    (hp : p i = true) (hfirst : ∀ j : SlotNo, j.val < i.val → p j = false) : b.slotList.find? p = some i := by
  rw [Bank.slotList, List.find?_filter, List.find?_eq_some_iff_getElem]
  refine ⟨by simp [hi, hp], i.val, by simp, by simp, fun j hj => ?_⟩
  simp [hfirst ⟨j, by omega⟩ hj]

theorem State.checkBank_of_count_eq_zero (s : State) (f : Feed) {b : Bank} (h : b.count.val = 0) :
    s.checkBank f b = .noSchedule := if_pos h

theorem State.checkBank_of_all_pass {s : State} {f : Feed} {b : Bank} (hpos : 0 < b.count.val)
    (hall : ∀ i : SlotNo, i.val < b.count.val → s.slotPasses f b (s.csq.get f).beaconLen i = true) :
    s.checkBank f b = .pass := by
  have hnone : b.slotList.find? (fun i => !s.slotPasses f b (s.csq.get f).beaconLen i) = none :=
    List.find?_eq_none.mpr fun i hi => by simp [hall i (Bank.mem_slotList.mp hi)]
  simp only [State.checkBank, if_neg hpos.ne', hnone]

theorem State.checkBank_of_first_failing {s : State} {f : Feed} {b : Bank} {i : SlotNo} (hi : i.val < b.count.val)
    (hfail : s.slotPasses f b (s.csq.get f).beaconLen i = false)
    (hfirst : ∀ j : SlotNo, j.val < i.val → s.slotPasses f b (s.csq.get f).beaconLen j = true) :
    s.checkBank f b = .badSchedule i := by
  have hfound : b.slotList.find? (fun i => !s.slotPasses f b (s.csq.get f).beaconLen i) = some i :=
    Bank.find?_slotList_of_first hi (by simp [hfail]) fun j hj => by simp [hfirst j hj]
  simp only [State.checkBank, if_neg (Nat.zero_lt_of_lt hi).ne', hfound]

/-! ### O35 -/

/-- Settles O35: the first part is the table of claim classes row by row; for the second, `ok` is the model's
`slotPasses`, and the check is decided by the first slot at which it fails. -/
theorem claimClassFollowsKindAndStream : Obligations.ClaimClassFollowsKindAndStream := by
  refine ⟨fun s f h p n m e => ⟨s.claimClass_beacon f h p, s.claimClass_probe f h p m, s.claimClass_shared f h p,
    s.claimClass_quiet f h p, State.claimClass_reserved_of_free f h p, State.claimClass_reserved_of_suspended f h p,
    fun hs ht => ?_, fun hs ht => ?_⟩, fun s f b ok hok => ?_⟩
  · rw [State.claimClass_reserved_of_active f h p hs, if_pos ht]
  · rw [State.claimClass_reserved_of_active f h p hs, if_neg ht]
  · have ok_iff (i : SlotNo) : ok i ↔ s.slotPasses f b (s.csq.get f).beaconLen i = true := by
      rw [hok, State.slotPasses_iff, Bank.positionPasses_iff, State.targetPasses_iff, and_assoc]
      simp only [Window.before_iff, State.memberOn_iff]
    simp only [ok_iff, Bool.not_eq_true]
    exact ⟨s.checkBank_of_count_eq_zero f, State.checkBank_of_all_pass,
      fun _ => State.checkBank_of_first_failing⟩

end Sys2Proof.Machine
end

