-- ==== Sys2Proof/Proofs/MeasurementOpen.lean ====
section
/-! Chapter 6, MEASURE_OPEN (R99, R100): what its owner answers in each case, in the order of the checks, and what the
answer leaves of the report state and the buffers. -/
namespace Sys2Proof.Machine

/-! ### Answers of the owner of a good frame (R173, R175, R176) -/

theorem State.linkOn_congr {s t : State} (h : t.links = s.links) (f : Feed) (b : Byte) :
    t.linkOn f b = s.linkOn f b := by simp [State.linkOn, State.link, h]

theorem State.zoneCount_congr {s t : State} (h : t.mtu = s.mtu) (f : Feed) : t.zoneCount f = s.zoneCount f := by
  simp [State.zoneCount, h]

theorem State.setClc_setClc (s : State) (f : Feed) (c d : Clc) : (s.setClc f c).setClc f d = s.setClc f d := by
  simp [State.setClc]

theorem State.setClc_get (s : State) (f : Feed) : s.setClc f (s.clc.get f) = s := by
  simp [State.setClc]

/-- A response keeps the report state and the buffers of its CLC. -/
theorem State.respond_keeps_report (s : State) (f : Feed) (tag : Byte) (r : Response) :
    ((s.respond f tag r).clc.get f).report = (s.clc.get f).report ∧
      ∀ a, ((s.respond f tag r).clc.get f).buffer a = (s.clc.get f).buffer a := by
  obtain ⟨d, hd, -, hadv⟩ := s.respond_spec f tag r
  have hget : (s.respond f tag r).clc.get f = d := by simp [hd]
  rw [hget]
  refine ⟨hadv.report, fun a => (hadv.buffer a).trans ?_⟩
  cases a <;> rfl

/-- An owner that only changes CLC f, keeping its link and receiver, and then answers, takes the frame. -/
theorem State.tookFrame_respond (s : State) (f : Feed) (tag : Byte) (r : Response) {c : Clc}
    (hl : c.link = ((s.hearing f).clc.get f).link) (hr : c.receiver = ((s.hearing f).clc.get f).receiver) :
    s.TookFrame (((s.hearing f).setClc f c).respond f tag r) f tag r := by
  obtain ⟨d, hd, hans, hadv⟩ := ((s.hearing f).setClc f c).respond_spec f tag r
  have hlink : d.link = c.link := by simpa using hadv.link
  have hreceiver : d.receiver = c.receiver := by simpa using hadv.receiver
  rw [State.setClc_setClc] at hd
  rw [← State.heardFrame_eq_hearing] at hd ⊢
  exact (State.takes_of_setClc hd hans (by simp [hlink, hl]) (by simp [hreceiver, hr])).1

/-! ### A new report in a CLC (R100) -/

theorem Clc.buffer_congr {c d : Clc} (h0 : d.buf0 = c.buf0) (h1 : d.buf1 = c.buf1) (a : BufNo) :
    d.buffer a = c.buffer a := by
  cases a
  · exact h0
  · exact h1

@[simp] theorem Clc.startReport_link (c : Clc) (b : BufNo) (r : Report) (gap : Nat) :
    (c.startReport b r gap).link = c.link := by cases b <;> rfl

@[simp] theorem Clc.startReport_receiver (c : Clc) (b : BufNo) (r : Report) (gap : Nat) :
    (c.startReport b r gap).receiver = c.receiver := by cases b <;> rfl

@[simp] theorem Clc.startReport_report (c : Clc) (b : BufNo) (r : Report) (gap : Nat) :
    (c.startReport b r gap).report = .open_ b gap := rfl

theorem Clc.buffer_startReport (c : Clc) (b : BufNo) (r : Report) (gap : Nat) (a : BufNo) :
    (c.startReport b r gap).buffer a = (c.setBuffer b (.filling r)).buffer a := Clc.buffer_congr rfl rfl a

/-- The report state before the start does not matter to it. -/
theorem Clc.startReport_of_report (c : Clc) (st : ReportState) (b : BufNo) (r : Report) (gap : Nat) :
    ({ c with report := st } : Clc).startReport b r gap = c.startReport b r gap := by cases b <;> rfl

theorem reportFits_iff {zones zone firstBlock blocks : Nat} :
    reportFits zones zone firstBlock blocks = true ↔
      zone < zones ∧ firstBlock ≤ 11 ∧ 1 ≤ blocks ∧ blocks ≤ 12 ∧ firstBlock + blocks ≤ 12 := by
  simp [reportFits, and_assoc]

/-! ### The checks of MEASURE_OPEN in their order (R99) -/

theorem State.measureOpen_of_open {s : State} {f : Feed} {a : BufNo} {gap : Nat}
    (h : (s.clc.get f).report = .open_ a gap) (tag link zone firstBlock blocks : Byte) :
    s.measureOpen f tag link zone firstBlock blocks = s.respond f tag (.refused .wrongState) := by
  simp only [State.measureOpen, h, State.refuse]

/-- The state in which the checks after the first are made: no report is open, and REMOVED has become IDLE. -/
def State.reportIdled (s : State) (f : Feed) : State := s.setClc f { s.clc.get f with report := .idle }

theorem State.measureOpen_of_not_open {s : State} {f : Feed} (h : ∀ a gap, (s.clc.get f).report ≠ .open_ a gap)
    (tag link zone firstBlock blocks : Byte) :
    s.measureOpen f tag link zone firstBlock blocks = (s.reportIdled f).openNew f tag link zone firstBlock blocks := by
  unfold State.measureOpen
  split
  · rename_i a gap hopen
    exact absurd hopen (h a gap)
  · rfl

theorem State.openNew_of_no_buffer {s : State} {f : Feed} (hb : (s.clc.get f).freeBuffer = none)
    (tag link zone firstBlock blocks : Byte) :
    s.openNew f tag link zone firstBlock blocks = s.respond f tag (.refused .busy) := by
  simp only [State.openNew, hb, State.refuse]

theorem State.openNew_of_no_link {s : State} {f : Feed} {b : BufNo} {link : Byte}
    (hb : (s.clc.get f).freeBuffer = some b) (hk : s.linkOn f link = none) (tag zone firstBlock blocks : Byte) :
    s.openNew f tag link zone firstBlock blocks = s.respond f tag (.refused .noLink) := by
  simp only [State.openNew, hb, hk, State.refuse]

theorem State.openNew_of_unfit {s : State} {f : Feed} {b : BufNo} {link zone firstBlock blocks : Byte} {l : LinkNo}
    {k : Link} (hb : (s.clc.get f).freeBuffer = some b) (hk : s.linkOn f link = some (l, k))
    (hfit : ¬ reportFits (s.zoneCount f) zone.toNat firstBlock.toNat blocks.toNat = true) (tag : Byte) :
    s.openNew f tag link zone firstBlock blocks = s.respond f tag (.refused .badParam) := by
  simp only [State.openNew, hb, hk, if_neg hfit, State.refuse]

theorem State.openNew_of_fit {s : State} {f : Feed} {b : BufNo} {link zone firstBlock blocks : Byte} {l : LinkNo}
    {k : Link} (hb : (s.clc.get f).freeBuffer = some b) (hk : s.linkOn f link = some (l, k))
    (hfit : reportFits (s.zoneCount f) zone.toNat firstBlock.toNat blocks.toNat = true) (tag : Byte) :
    s.openNew f tag link zone firstBlock blocks =
      (s.setClc f ((s.clc.get f).startReport b
        ⟨l, k.record.generation, zone.toNat, firstBlock.toNat, blocks.toNat, firstBlock.toNat, []⟩
        (s.now + Config.gapTicks))).respond f tag .accepted := by
  simp only [State.openNew, hb, hk, if_pos hfit]

/-! ### What the checks read in the state with the link heard -/

theorem State.hearing_report (s : State) (f : Feed) : ((s.hearing f).clc.get f).report = (s.clc.get f).report := by
  simp

theorem State.hearing_buffer (s : State) (f : Feed) (a : BufNo) :
    ((s.hearing f).clc.get f).buffer a = (s.clc.get f).buffer a := Clc.buffer_congr (by simp) (by simp) a

theorem State.reportIdled_get (s : State) (f : Feed) :
    (s.reportIdled f).clc.get f = { s.clc.get f with report := .idle } := by
  simp [State.reportIdled]

theorem State.reportIdled_buffer (s : State) (f : Feed) (a : BufNo) :
    ((s.reportIdled f).clc.get f).buffer a = (s.clc.get f).buffer a := by
  rw [State.reportIdled_get]
  exact Clc.buffer_congr rfl rfl a

theorem State.freeBuffer_reportIdled_hearing (s : State) (f : Feed) :
    (((s.hearing f).reportIdled f).clc.get f).freeBuffer = (s.clc.get f).freeBuffer := by
  rw [State.reportIdled_get, State.hearing_clc]
  rfl

theorem State.linkOn_reportIdled_hearing (s : State) (f : Feed) (link : Byte) :
    ((s.hearing f).reportIdled f).linkOn f link = s.linkOn f link := State.linkOn_congr rfl f link

theorem State.zoneCount_reportIdled_hearing (s : State) (f : Feed) :
    ((s.hearing f).reportIdled f).zoneCount f = s.zoneCount f := State.zoneCount_congr rfl f

/-! ### O42 -/

section Answers

variable {s : State} {f : Feed} {tag link zone firstBlock blocks : Byte}

/-- A MEASURE_OPEN whose owner answers after a change of the report state and the buffers alone. -/
theorem State.execMeasureOpen_of_answer {c : Clc} {r : Response} (hs : (s.clc.get f).slot = none)
    (hc : (s.hearing f).measureOpen f tag link zone firstBlock blocks =
      ((s.hearing f).setClc f c).respond f tag r)
    (hl : c.link = ((s.hearing f).clc.get f).link) (hr : c.receiver = ((s.hearing f).clc.get f).receiver) :
    ∃ t, exec (.measureOpen f tag link zone firstBlock blocks) s = .next t ∧ s.TookFrame t f tag r ∧
      t = ((s.hearing f).setClc f c).respond f tag r ∧
      (t.clc.get f).report = c.report ∧ ∀ a, (t.clc.get f).buffer a = c.buffer a := by
  refine ⟨_, ?_, s.tookFrame_respond f tag r hl hr, rfl, ?_⟩
  · rw [← hc, ← State.takeFrame_eq hs fun t => t.measureOpen f tag link zone firstBlock blocks]
    rfl
  · simpa using ((s.hearing f).setClc f c).respond_keeps_report f tag r

/-- The refusal by check 1: a report is open, and it stays as it is. -/
theorem State.execMeasureOpen_of_open (hs : (s.clc.get f).slot = none) {b : BufNo} {gap : Nat}
    (hopen : (s.clc.get f).report = .open_ b gap) :
    ∃ t, exec (.measureOpen f tag link zone firstBlock blocks) s = .next t ∧
      s.TookFrame t f tag (.refused .wrongState) ∧ t = (s.hearing f).respond f tag (.refused .wrongState) ∧
      (t.clc.get f).report = .open_ b gap ∧ ∀ a, (t.clc.get f).buffer a = (s.clc.get f).buffer a := by
  have h := State.execMeasureOpen_of_answer hs (c := (s.hearing f).clc.get f)
    (by rw [State.setClc_get]
        exact State.measureOpen_of_open ((s.hearing_report f).trans hopen) tag link zone firstBlock blocks) rfl rfl
  simpa only [State.setClc_get, State.hearing_report, hopen, State.hearing_buffer] using h

/-- A refusal by a later check: the report state is IDLE, and the buffers stay as they are. -/
theorem State.execMeasureOpen_of_refused (hs : (s.clc.get f).slot = none)
    (hnot : ∀ a gap, (s.clc.get f).report ≠ .open_ a gap) {code : Completion}
    (h : ((s.hearing f).reportIdled f).openNew f tag link zone firstBlock blocks =
      ((s.hearing f).reportIdled f).respond f tag (.refused code)) :
    ∃ t, exec (.measureOpen f tag link zone firstBlock blocks) s = .next t ∧
      s.TookFrame t f tag (.refused code) ∧
      t = ((s.hearing f).reportIdled f).respond f tag (.refused code) ∧
      (t.clc.get f).report = .idle ∧ ∀ a, (t.clc.get f).buffer a = (s.clc.get f).buffer a := by
  have hanswer := (State.measureOpen_of_not_open (s := s.hearing f) (by rwa [State.hearing_report]) tag link zone
    firstBlock blocks).trans h
  obtain ⟨t, hexec, htook, ht, hreport, hbuffer⟩ := State.execMeasureOpen_of_answer hs hanswer rfl rfl
  refine ⟨t, hexec, htook, ht, hreport, fun a => ?_⟩
  rw [hbuffer, ← State.reportIdled_get, State.reportIdled_buffer, State.hearing_buffer]

/-- All checks pass: the free buffer is FILLING with the new report, and the other one stays as it is. -/
theorem State.execMeasureOpen_of_fit (hs : (s.clc.get f).slot = none)
    (hnot : ∀ a gap, (s.clc.get f).report ≠ .open_ a gap) {b : BufNo} {l : LinkNo} {k : Link} {r : Report}
    (hb : (s.clc.get f).freeBuffer = some b) (hk : s.linkOn f link = some (l, k))
    (hfit : reportFits (s.zoneCount f) zone.toNat firstBlock.toNat blocks.toNat = true)
    (hr : r = ⟨l, k.record.generation, zone.toNat, firstBlock.toNat, blocks.toNat, firstBlock.toNat, []⟩) :
    ∃ t, exec (.measureOpen f tag link zone firstBlock blocks) s = .next t ∧ s.TookFrame t f tag .accepted ∧
      t = ((s.hearing f).setClc f
        (((s.hearing f).clc.get f).startReport b r (s.now + Config.gapTicks))).respond f tag .accepted ∧
      (t.clc.get f).report = .open_ b (s.now + Config.gapTicks) ∧ (t.clc.get f).buffer b = .filling r ∧
      ∀ a, a ≠ b → (t.clc.get f).buffer a = (s.clc.get f).buffer a := by
  subst hr
  have hanswer := (State.measureOpen_of_not_open (s := s.hearing f) (by rwa [State.hearing_report]) tag link zone
    firstBlock blocks).trans <|
      State.openNew_of_fit ((s.freeBuffer_reportIdled_hearing f).trans hb)
        ((s.linkOn_reportIdled_hearing f link).trans hk) (by rwa [State.zoneCount_reportIdled_hearing]) tag
  rw [State.reportIdled_get, Clc.startReport_of_report, State.reportIdled, State.setClc_setClc] at hanswer
  obtain ⟨t, hexec, htook, ht, hreport, hbuffer⟩ := State.execMeasureOpen_of_answer hs hanswer
    (Clc.startReport_link ..) (Clc.startReport_receiver ..)
  refine ⟨t, hexec, htook, ht, hreport, ?_, fun a ha => ?_⟩
  · rw [hbuffer, Clc.buffer_startReport, Clc.buffer_setBuffer_self]
  · rw [hbuffer, Clc.buffer_startReport, Clc.buffer_setBuffer_of_ne _ ha, State.hearing_buffer]

end Answers

/-- Settles O42: the cases follow the order of the checks, and each is one answer of the owner in the state with the
link heard; from the second check on, that state has the report IDLE. -/
theorem measureOpenStartsAReport : Obligations.MeasureOpenStartsAReport := by
  rintro f tag link zone first blocks s u v b hs rfl rfl
  refine ⟨fun a gap hopen => State.execMeasureOpen_of_open hs hopen, fun hnot => ⟨fun hb => ?_, fun hb hk => ?_,
    fun l k hb hk hbad => ?_, fun l k hb hk hzone hfirst hpos hsum => ?_⟩⟩
  · exact State.execMeasureOpen_of_refused hs hnot <|
      State.openNew_of_no_buffer ((s.freeBuffer_reportIdled_hearing f).trans hb) tag link zone first blocks
  · exact State.execMeasureOpen_of_refused hs hnot <|
      State.openNew_of_no_link ((s.freeBuffer_reportIdled_hearing f).trans hb)
        ((s.linkOn_reportIdled_hearing f link).trans hk) tag zone first blocks
  · refine State.execMeasureOpen_of_refused hs hnot <|
      State.openNew_of_unfit ((s.freeBuffer_reportIdled_hearing f).trans hb)
        ((s.linkOn_reportIdled_hearing f link).trans hk) (fun hfit => ?_) tag
    rw [State.zoneCount_reportIdled_hearing, reportFits_iff] at hfit
    omega
  · have hfit : reportFits (s.zoneCount f) zone.toNat first.toNat blocks.toNat = true :=
      reportFits_iff.mpr ⟨hzone, hfirst, hpos, by omega, hsum⟩
    exact State.execMeasureOpen_of_fit hs hnot hb hk hfit rfl

end Sys2Proof.Machine
end

