-- ==== Sys2Proof/Proofs/GradeLadder.lean ====
section
/-! Chapter 8, the ladder of grades: the verdict of an evaluation (R144 to R148), what a grade change hands on
(R149 to R151, R93, R120), and the beacon boundary at one link (R143). -/
namespace Sys2Proof.Machine

/-! ### The tests on a tally (R144) -/

theorem LinkRecord.clean_iff {r : LinkRecord} : r.clean = true ↔ r.failed * 64 ≤ r.ok + r.failed :=
  decide_eq_true_iff

theorem LinkRecord.stepsDown_iff {r : LinkRecord} : r.stepsDown = true ↔ r.ok + r.failed < r.failed * 8 :=
  decide_eq_true_iff

theorem LinkRecord.bad_iff {r : LinkRecord} : r.bad = true ↔ r.ok + r.failed < r.failed * 4 :=
  decide_eq_true_iff

theorem LinkRecord.recovered_iff {r : LinkRecord} : r.recovered = true ↔ r.failed * 16 ≤ r.ok + r.failed :=
  decide_eq_true_iff

theorem LinkRecord.idleDue_iff {r : LinkRecord} : r.idleDue = true ↔ r.periods = 16 ∧ 32 ≤ r.ok + r.failed := by
  rw [LinkRecord.idleDue, Bool.and_eq_true, decide_eq_true_iff, decide_eq_true_iff]
  rfl

/-! ### The verdict at each grade (R145 to R148) -/

section Verdicts

variable {r : LinkRecord}

theorem LinkRecord.judgeAdaptive_of_stepsDown (h : r.ok + r.failed < r.failed * 8) (down up : Grade) :
    r.judgeAdaptive down up = if r.pendingCause = some .stepDown then ⟨.robust, 0, r.badRun, true⟩
      else ⟨down, 0, r.badRun, false⟩ := if_pos (LinkRecord.stepsDown_iff.mpr h)

/-- A tally does not step down and pass as clean at once, so the order of the two tests does not matter. -/
theorem LinkRecord.judgeAdaptive_of_clean (h : r.failed * 64 ≤ r.ok + r.failed) (down up : Grade) :
    r.judgeAdaptive down up = if r.goodRun = 3 then ⟨up, 0, r.badRun, false⟩
      else ⟨r.grade, r.goodRun + 1, r.badRun, false⟩ := by
  have hdown : ¬ r.stepsDown = true := by rw [LinkRecord.stepsDown_iff]; omega
  simp only [LinkRecord.judgeAdaptive, if_neg hdown, if_pos (LinkRecord.clean_iff.mpr h), Nat.reduceEqDiff]

theorem LinkRecord.judgeAdaptive_of_between (hlow : r.ok + r.failed < r.failed * 64)
    (hhigh : r.failed * 8 ≤ r.ok + r.failed) (down up : Grade) :
    r.judgeAdaptive down up = ⟨r.grade, 0, r.badRun, false⟩ := by
  have hdown : ¬ r.stepsDown = true := by rw [LinkRecord.stepsDown_iff]; omega
  have hclean : ¬ r.clean = true := by rw [LinkRecord.clean_iff]; omega
  simp only [LinkRecord.judgeAdaptive, if_neg hdown, if_neg hclean]

theorem LinkRecord.judgeRobust_of_clean (h : r.failed * 64 ≤ r.ok + r.failed) :
    r.judgeRobust = if r.goodRun = 3 then ⟨.guarded, 0, 0, false⟩ else ⟨.robust, r.goodRun + 1, 0, false⟩ := by
  simp only [LinkRecord.judgeRobust, if_pos (LinkRecord.clean_iff.mpr h), Nat.reduceEqDiff]

theorem LinkRecord.judgeRobust_of_bad (h : r.ok + r.failed < r.failed * 4) :
    r.judgeRobust = if r.badRun = 1 then ⟨.unreachable, 0, 0, false⟩ else ⟨.robust, 0, r.badRun + 1, false⟩ := by
  have hclean : ¬ r.clean = true := by rw [LinkRecord.clean_iff]; omega
  simp only [LinkRecord.judgeRobust, if_neg hclean, if_pos (LinkRecord.bad_iff.mpr h),
    Nat.reduceEqDiff]

theorem LinkRecord.judgeRobust_of_between (hlow : r.ok + r.failed < r.failed * 64)
    (hhigh : r.failed * 4 ≤ r.ok + r.failed) : r.judgeRobust = ⟨.robust, 0, 0, false⟩ := by
  have hclean : ¬ r.clean = true := by rw [LinkRecord.clean_iff]; omega
  have hbad : ¬ r.bad = true := by rw [LinkRecord.bad_iff]; omega
  simp only [LinkRecord.judgeRobust, if_neg hclean, if_neg hbad]

theorem LinkRecord.judgeUnreachable_eq (r : LinkRecord) : r.judgeUnreachable =
    ⟨if r.failed * 16 ≤ r.ok + r.failed then .robust else .unreachable, 0, 0, false⟩ := by
  simp only [LinkRecord.judgeUnreachable, LinkRecord.recovered_iff]
  split <;> rfl

theorem LinkRecord.judge_of_adaptive (h : r.grade = .full ∨ r.grade = .guarded) :
    r.judge = r.judgeAdaptive (if r.grade = .guarded then .robust else .guarded) .full := by
  obtain h | h := h <;> simp [LinkRecord.judge, h]

theorem LinkRecord.judge_of_robust (h : r.grade = .robust) : r.judge = r.judgeRobust := by
  simp only [LinkRecord.judge, h]

theorem LinkRecord.judge_of_unreachable (h : r.grade = .unreachable) : r.judge = r.judgeUnreachable := by
  simp only [LinkRecord.judge, h]

theorem LinkRecord.judgeAdaptive_badRun (r : LinkRecord) (down up : Grade) :
    (r.judgeAdaptive down up).badRun = r.badRun := by
  unfold LinkRecord.judgeAdaptive
  (repeat' split) <;> rfl

/-- R148 applies to a step down at FULL or GUARDED alone. -/
theorem LinkRecord.judge_escalated_iff : r.judge.escalated = true ↔
    (r.grade = .full ∨ r.grade = .guarded) ∧ r.pendingCause = some .stepDown ∧
      r.ok + r.failed < r.failed * 8 := by
  have adaptive (down up : Grade) : (r.judgeAdaptive down up).escalated = true ↔
      r.pendingCause = some .stepDown ∧ r.ok + r.failed < r.failed * 8 := by
    rw [← LinkRecord.stepsDown_iff]
    by_cases hdown : r.stepsDown = true
    · by_cases hp : r.pendingCause = some .stepDown <;> simp [LinkRecord.judgeAdaptive, hdown, hp]
    · simp only [LinkRecord.judgeAdaptive, if_neg hdown]
      (repeat' split) <;> simp [hdown]
  cases h : r.grade with
  | full | guarded => simp [LinkRecord.judge, h, adaptive]
  | robust =>
    rw [LinkRecord.judge_of_robust h, LinkRecord.judgeRobust]
    (repeat' split) <;> simp
  | unreachable => simp [LinkRecord.judge_of_unreachable h, LinkRecord.judgeUnreachable_eq]

end Verdicts

/-! ### The record after an evaluation (R144, R149) -/

@[simp] theorem LinkRecord.evaluated_grade (r : LinkRecord) : r.evaluated.grade = r.judge.grade := rfl
@[simp] theorem LinkRecord.evaluated_goodRun (r : LinkRecord) : r.evaluated.goodRun = r.judge.goodRun := rfl
@[simp] theorem LinkRecord.evaluated_badRun (r : LinkRecord) : r.evaluated.badRun = r.judge.badRun := rfl

/-- R145 with R148. -/
theorem LinkRecord.evaluated_of_adaptive {r : LinkRecord} (h : r.grade = .full ∨ r.grade = .guarded) :
    r.evaluated.badRun = r.badRun ∧
    (r.ok + r.failed < r.failed * 8 → r.evaluated.goodRun = 0 ∧ r.evaluated.grade =
      if r.pendingCause = some .stepDown ∨ r.grade = .guarded then .robust else .guarded) ∧
    (r.failed * 64 ≤ r.ok + r.failed → r.goodRun ≠ 3 →
      r.evaluated.grade = r.grade ∧ r.evaluated.goodRun = r.goodRun + 1) ∧
    (r.failed * 64 ≤ r.ok + r.failed → r.goodRun = 3 →
      r.evaluated.grade = .full ∧ r.evaluated.goodRun = 0) ∧
    (r.ok + r.failed < r.failed * 64 → r.failed * 8 ≤ r.ok + r.failed →
      r.evaluated.grade = r.grade ∧ r.evaluated.goodRun = 0) := by
  simp only [LinkRecord.evaluated_grade, LinkRecord.evaluated_goodRun, LinkRecord.evaluated_badRun,
    LinkRecord.judge_of_adaptive h]
  refine ⟨r.judgeAdaptive_badRun _ _, fun hdown => ?_, fun hclean hrun => ?_, fun hclean hrun => ?_,
    fun hlow hhigh => ?_⟩
  · rw [LinkRecord.judgeAdaptive_of_stepsDown hdown]
    by_cases hp : r.pendingCause = some .stepDown <;> simp [hp]
  · simp [LinkRecord.judgeAdaptive_of_clean hclean, hrun]
  · simp [LinkRecord.judgeAdaptive_of_clean hclean, hrun]
  · simp [LinkRecord.judgeAdaptive_of_between hlow hhigh]

/-- R146. -/
theorem LinkRecord.evaluated_of_robust {r : LinkRecord} (h : r.grade = .robust) :
    (r.failed * 64 ≤ r.ok + r.failed → r.evaluated.badRun = 0 ∧
      (r.goodRun ≠ 3 → r.evaluated.grade = .robust ∧ r.evaluated.goodRun = r.goodRun + 1) ∧
      (r.goodRun = 3 → r.evaluated.grade = .guarded ∧ r.evaluated.goodRun = 0)) ∧
    (r.ok + r.failed < r.failed * 4 → r.evaluated.goodRun = 0 ∧
      (r.badRun ≠ 1 → r.evaluated.grade = .robust ∧ r.evaluated.badRun = r.badRun + 1) ∧
      (r.badRun = 1 → r.evaluated.grade = .unreachable ∧ r.evaluated.badRun = 0)) ∧
    (r.ok + r.failed < r.failed * 64 → r.failed * 4 ≤ r.ok + r.failed →
      r.evaluated.grade = .robust ∧ r.evaluated.goodRun = 0 ∧ r.evaluated.badRun = 0) := by
  simp only [LinkRecord.evaluated_grade, LinkRecord.evaluated_goodRun, LinkRecord.evaluated_badRun,
    LinkRecord.judge_of_robust h]
  refine ⟨fun hclean => ?_, fun hbad => ?_, fun hlow hhigh => ?_⟩
  · by_cases hrun : r.goodRun = 3 <;> simp [LinkRecord.judgeRobust_of_clean hclean, hrun]
  · by_cases hrun : r.badRun = 1 <;> simp [LinkRecord.judgeRobust_of_bad hbad, hrun]
  · simp [LinkRecord.judgeRobust_of_between hlow hhigh]

/-- R147. -/
theorem LinkRecord.evaluated_of_unreachable {r : LinkRecord} (h : r.grade = .unreachable) :
    r.evaluated.goodRun = 0 ∧ r.evaluated.badRun = 0 ∧
    r.evaluated.grade = if r.failed * 16 ≤ r.ok + r.failed then .robust else .unreachable := by
  simp [LinkRecord.judge_of_unreachable h, LinkRecord.judgeUnreachable_eq]

/-! ### The streams of a link at a grade change (R93) -/

/-- What a grade change of link l makes of one stream. -/
def Stream.follow (t : Stream) (l : LinkNo) (old new : Grade) : Stream :=
  if new = .unreachable then t.suspend l else if old = .unreachable then t.resume l else t

theorem State.stream_eachStream (s : State) (g : Stream → Stream) (n : StreamNo) :
    (s.eachStream g).stream n = g (s.stream n) := by simp [State.eachStream, State.stream]

theorem State.stream_streamsFollow (s : State) (l : LinkNo) (old new : Grade) (n : StreamNo) :
    (s.streamsFollow l old new).stream n = (s.stream n).follow l old new := by
  unfold State.streamsFollow Stream.follow
  split
  · exact s.stream_eachStream _ n
  · split
    · exact s.stream_eachStream _ n
    · rfl

theorem State.streamsFollow_eq (s : State) (l : LinkNo) (old new : Grade) :
    s.streamsFollow l old new = { s with streams := (s.streamsFollow l old new).streams } := by
  unfold State.streamsFollow
  (repeat' split) <;> rfl

@[simp] theorem Stream.follow_refs (t : Stream) (l : LinkNo) (old new : Grade) :
    (t.follow l old new).refs = t.refs := by
  unfold Stream.follow Stream.suspend Stream.resume
  (repeat' split) <;> rfl

section Follow

variable {t : Stream} {e : StreamEnds}

theorem Stream.follow_state_of_free (h : t.state = .free) (l : LinkNo) (old new : Grade) :
    (t.follow l old new).state = .free := by
  simp [Stream.follow, Stream.suspend, Stream.resume, h]

theorem Stream.follow_state_of_active (h : t.state = .active e) (l : LinkNo) (old new : Grade) :
    (t.follow l old new).state = if new = .unreachable ∧ e.link = some l then .suspended e else .active e := by
  by_cases hnew : new = .unreachable
  · by_cases hl : e.link = some l <;> simp [Stream.follow, Stream.suspend, h, hnew, hl]
  · simp [Stream.follow, Stream.resume, h, hnew]

/-- A change from UNREACHABLE is no change to it, so the order of the two cases does not matter. -/
theorem Stream.follow_state_of_suspended (h : t.state = .suspended e) (l : LinkNo) {old new : Grade}
    (hne : new ≠ old) :
    (t.follow l old new).state = if old = .unreachable ∧ e.link = some l then .active e else .suspended e := by
  by_cases hold : old = .unreachable
  · have hnew : new ≠ .unreachable := hold ▸ hne
    by_cases hl : e.link = some l <;> simp [Stream.follow, Stream.resume, h, hold, hnew, hl]
  · simp [Stream.follow, Stream.suspend, h, hold]

end Follow

theorem Stream.eq_of {t u : Stream} (hstate : t.state = u.state) (hrefs : t.refs = u.refs) : t = u := by
  cases t
  cases u
  rw [Stream.mk.injEq]
  exact ⟨hstate, hrefs⟩

theorem State.streams_ext {s t : State} (h : ∀ n, s.stream n = t.stream n) : s.streams = t.streams :=
  Vector.ext fun n hn => h ⟨n, hn⟩

/-- The clauses of R93 say each stream of the table after a grade change. -/
theorem State.streams_eq_streamsFollow {s v : State} {l : LinkNo} {old new : Grade} (hne : new ≠ old)
    (hrefs : ∀ n, (v.stream n).refs = (s.stream n).refs)
    (hfree : ∀ n, (s.stream n).state = .free → (v.stream n).state = .free)
    (hactive : ∀ n e, (s.stream n).state = .active e →
      (v.stream n).state = if new = .unreachable ∧ e.link = some l then .suspended e else .active e)
    (hsuspended : ∀ n e, (s.stream n).state = .suspended e →
      (v.stream n).state = if old = .unreachable ∧ e.link = some l then .active e else .suspended e) :
    v.streams = (s.streamsFollow l old new).streams := by
  refine State.streams_ext fun n => ?_
  rw [State.stream_streamsFollow]
  refine Stream.eq_of ?_ ((hrefs n).trans (Stream.follow_refs ..).symm)
  cases h : (s.stream n).state with
  | free => rw [hfree n h, Stream.follow_state_of_free h]
  | active e => rw [hactive n e h, Stream.follow_state_of_active h]
  | suspended e => rw [hsuspended n e h, Stream.follow_state_of_suspended h l hne]

/-! ### The plan queue at an urgent offer (R120) -/

theorem Planner.offerUrgent_of_not_urgent {p : Planner} {l : LinkNo} (h : ∀ e ∈ p.urgent, e.link ≠ l)
    (cause : Cause) : p.offerUrgent l cause = { p with
      urgent := p.urgent ++ [⟨l, cause⟩]
      normal := p.normal.filter fun e => decide (e.link ≠ l) } := by
  have hnone : ¬ p.urgent.any (·.link = l) = true := by simpa using h
  rw [Planner.offerUrgent, if_neg hnone]

theorem PlanEntry.recause_eq (e : PlanEntry) (l : LinkNo) (cause : Cause) :
    e.recause l cause = if e.link = l ∧ cause ≠ .notch then ⟨l, cause⟩ else e := by
  obtain rfl | hne := eq_or_ne e.link l
  · simp [PlanEntry.recause]
  · simp [PlanEntry.recause, hne]

theorem Planner.offerUrgent_of_urgent {p : Planner} {l : LinkNo} (h : ∃ e ∈ p.urgent, e.link = l)
    (cause : Cause) : p.offerUrgent l cause = { p with
      urgent := p.urgent.map fun e => if e.link = l ∧ cause ≠ .notch then ⟨l, cause⟩ else e } := by
  have hsome : p.urgent.any (·.link = l) = true := by simpa using h
  simp only [Planner.offerUrgent, if_pos hsome, PlanEntry.recause_eq]

/-! ### An evaluation and the beacon boundary at one link (R143, R149) -/

section Evaluation

variable {s : State} {l : LinkNo} {k : Link}

theorem State.evaluate_of_kept (h : k.record.judge.grade = k.record.grade) (trigger : Trigger)
    (zone : Option Nat) : s.evaluate l k trigger zone = s.setRecord l k k.record.evaluated := if_pos h

theorem State.evaluate_of_changed (h : k.record.judge.grade ≠ k.record.grade) (trigger : Trigger)
    (zone : Option Nat) : s.evaluate l k trigger zone =
      (s.setRecord l k k.record.evaluated).announceGrade l k.record trigger zone := if_neg h

theorem State.idleLink_of_free (h : s.link l = none) : s.idleLink l = s := by
  simp only [State.idleLink, h]

theorem State.idleLink_of_due (hk : s.link l = some k) (h : k.record.nextPeriod.idleDue = true) :
    s.idleLink l = s.evaluate l { k with record := k.record.nextPeriod } .idle none := by
  simp only [State.idleLink, hk, if_pos h]

theorem State.idleLink_of_not_due (hk : s.link l = some k) (h : ¬ k.record.nextPeriod.idleDue = true) :
    s.idleLink l = s.setRecord l k k.record.nextPeriod := by
  simp only [State.idleLink, hk, if_neg h]

end Evaluation

/-- The parts of a grade change, said of any state that has them, are the change handed on. -/
theorem State.announceGrade_of_parts {u v : State} {l : LinkNo} {old : LinkRecord}
    (hv : v = { u with
      streams := (u.streamsFollow l old.grade old.judge.grade).streams
      planner := u.planner.offerUrgent l (changeCause old.grade old.judge.grade) })
    (trigger : Trigger) (zone : Option Nat) :
    u.announceGrade l old trigger zone =
      (v.offerGeneral old.feed (.linkGrade l old.grade old.judge.grade trigger old.judge.escalated zone)).offerEvent
        (.linkGrade l old.grade old.judge.grade) := by
  have hparts : v = (u.streamsFollow l old.grade old.judge.grade).offerUrgent l
      (changeCause old.grade old.judge.grade) := by
    rw [hv, State.streamsFollow_eq]
    rfl
  rw [hparts]
  rfl

/-! ### O55 -/

/-- Settles O55: the ladder is the verdict at each grade; a boundary is an evaluation when the idle test passes; a
changed grade is handed on by the streams, the plan queue, the notice and the event in that order; and the urgent
offer follows whether the link is in the urgent class. -/
theorem evaluationFollowsTheLadder : Obligations.EvaluationFollowsTheLadder := by
  refine ⟨?_, fun s l => ⟨State.idleLink_of_free, ?_⟩, ?_,
    fun p l cause => ⟨fun h => Planner.offerUrgent_of_not_urgent h cause,
      fun h => Planner.offerUrgent_of_urgent h cause⟩⟩
  · rintro r _ rfl
    exact ⟨rfl, LinkRecord.evaluated_of_adaptive, LinkRecord.evaluated_of_robust,
      LinkRecord.evaluated_of_unreachable⟩
  · rintro k _ hk rfl
    refine ⟨fun hperiods htotal => ?_, fun hnot => ?_⟩
    · exact State.idleLink_of_due hk (LinkRecord.idleDue_iff.mpr ⟨hperiods, htotal⟩)
    · refine State.idleLink_of_not_due hk fun hdue => ?_
      obtain ⟨hperiods, htotal⟩ := LinkRecord.idleDue_iff.mp hdue
      obtain hlt | hlt := hnot
      · exact hlt.ne hperiods
      · exact Nat.not_lt.mpr htotal hlt
  · rintro s _ l k trigger zone _ _ rfl rfl rfl
    refine ⟨fun hkept => State.evaluate_of_kept hkept trigger zone, ?_⟩
    rintro hchanged v _ escalated hv hrefs hfree hactive hsuspended hescalated rfl
    have hstreams := State.streams_eq_streamsFollow
      (s := s.setRecord l k k.record.evaluated) hchanged hrefs hfree hactive hsuspended
    rw [hstreams] at hv
    have hverdict : k.record.judge.escalated = escalated :=
      Bool.eq_iff_iff.mpr (LinkRecord.judge_escalated_iff.trans hescalated.symm)
    rw [State.evaluate_of_changed hchanged,
      State.announceGrade_of_parts (u := s.setRecord l k k.record.evaluated) hv, hverdict]
    rfl

end Sys2Proof.Machine
end

section
/-! What a command can do, said once: each row of the table is inverted into the operations it can be, with what is
known when it is that operation. The invariants of Safety.lean are proved over these cases. -/
namespace Sys2Proof.Machine

/-! ### Owners of management commands (R187) -/

/-- What the owner of a management command can make of the state, with what its checks have found. -/
inductive State.OwnerEffect (s : State) : State → Prop
  | same : s.OwnerEffect s
  | configured (f : Feed) (offset beaconLen : Nat) (a : Byte) (bs : List Nat)
      (hstop : (s.csq.get f).state = .stopped) (hremote : s.remoteMember f = false) :
      s.OwnerEffect (s.configure f offset beaconLen a bs)
  | notched (f : Feed) (m : NotchMask) :
      s.OwnerEffect (State.forEach { s with notch := s.notch.set f m } (s.liveLinks f)
        fun t l => t.offerUrgent l .notch)
  | started (f : Feed) (hstop : (s.csq.get f).state = .stopped)
      (hpass : s.checkBank f (s.csq.get f).currentBank = .pass) : s.OwnerEffect (s.enterSeq f .waitingSync)
  | stopped (f : Feed) : s.OwnerEffect ((s.endPlayback f).enterSeq f .stopped)
  | restarted (f : Feed) : s.OwnerEffect (((s.restartSeq f).restartMains f).flushLink f)
  | edited (f : Feed) (b : Bank) (hedit : (s.csq.get f).pendingState = .edit) :
      s.OwnerEffect (s.setCsq f ((s.csq.get f).setBank (s.csq.get f).pendingNo b))
  | activated (f : Feed) (n : Nat) (hedit : (s.csq.get f).pendingState = .edit)
      (hpass : s.checkBank f (s.csq.get f).pendingBank = .pass) : s.OwnerEffect (s.activate f n).1
  | cancelled (f : Feed) : s.OwnerEffect (s.cancelPending f)
  | admitted (n : StationIx) (f : Feed) (a : Byte) (hn : 3 ≤ n.val) (hfree : (s.station n).member = none)
      (haddress : s.holderOf f a.toNat = none) : s.OwnerEffect (s.enterStation n f a)
  | removed (n : StationIx) (m : Membership) (hn : 3 ≤ n.val) (hm : (s.station n).member = some m)
      (hrefs : (s.station n).refs = 0) : s.OwnerEffect (s.tearDown n m.feed)
  | created (n : StreamNo) (e : StreamEnds) (hcan : s.canStream e.transmitter e.receiver = true)
      (hfree : (s.stream n).state = .free) : s.OwnerEffect (s.createStream n e)
  | deleted (n : StreamNo) (e : StreamEnds) (he : (s.stream n).state.ends = some e)
      (hrefs : (s.stream n).refs = 0) :
      s.OwnerEffect (((s.dropStation e.transmitter).dropStation e.receiver).setStream n ⟨.free, 0⟩)
  | linkSet (l : LinkNo) (k : Link) (margin threshold : Nat) (hk : s.link l = some k) :
      s.OwnerEffect (s.setRecord l k { k.record with margin := margin, threshold := threshold })
  | planned (l : LinkNo) (k : Link) (hk : s.link l = some k) : s.OwnerEffect (s.offerPlan l)
  | eventTaken (e : EventRecord) (rest : List EventRecord) (he : s.mgp.events = e :: rest) :
      s.OwnerEffect (s.setMgp { s.mgp with events := rest })
  | masked (m : Byte) : s.OwnerEffect (s.setMgp { s.mgp with mask := m })

theorem feedConfigure_effect (feed offset beaconLen address count b1 b2 b3 b4 b5 : Word) (s : State) :
    s.OwnerEffect (feedConfigure feed offset beaconLen address count b1 b2 b3 b4 b5 s).1 := by
  unfold feedConfigure
  split
  · exact .same
  · dsimp only
    split
    · exact .same
    · rename_i h
      simp only [Bool.or_eq_true, decide_eq_true_eq, not_or, not_not, Bool.not_eq_true] at h
      split
      · exact .configured _ _ _ _ _ h.1 h.2
      · exact .same

theorem notchSet_effect (feed w1 w2 w3 w4 w5 w6 : Word) (s : State) :
    s.OwnerEffect (notchSet feed w1 w2 w3 w4 w5 w6 s).1 := by
  unfold notchSet
  split
  · exact .same
  · exact .notched _ _

theorem seqStart_effect (feed : Word) (s : State) : s.OwnerEffect (seqStart feed s).1 := by
  unfold seqStart
  split
  · exact .same
  · split
    · rename_i hstop
      split
      · rename_i hpass
        exact .started _ hstop hpass
      · exact .same
    · exact .same

theorem seqStop_effect (feed : Word) (s : State) : s.OwnerEffect (seqStop feed s).1 := by
  unfold seqStop
  split
  · exact .same
  · split
    · exact .same
    · exact .stopped _

theorem feedRestart_effect (feed : Word) (s : State) : s.OwnerEffect (feedRestart feed s).1 := by
  unfold feedRestart
  split
  · exact .same
  · exact .restarted _

theorem windowWrite_effect (feed slot half phase kind target : Word) (s : State) :
    s.OwnerEffect (windowWrite feed slot half phase kind target s).1 := by
  unfold windowWrite
  split
  · dsimp only
    split
    · rename_i hedit
      exact .edited _ _ hedit
    · exact .same
  · exact .same

theorem windowCount_effect (feed count : Word) (s : State) : s.OwnerEffect (windowCount feed count s).1 := by
  unfold windowCount
  split
  · dsimp only
    split
    · rename_i hedit
      exact .edited _ _ hedit
    · exact .same
  · exact .same

theorem windowRead_state (feed role slot : Word) (s : State) : (windowRead feed role slot s).1 = s := by
  unfold windowRead
  split
  · dsimp only
    split <;> rfl
  · rfl

theorem scheduleActivate_effect (feed countdown : Word) (s : State) :
    s.OwnerEffect (scheduleActivate feed countdown s).1 := by
  unfold scheduleActivate
  split
  · exact .same
  · split
    · exact .same
    · rename_i hedit
      split
      · rename_i hpass
        exact .activated _ _ hedit hpass
      · exact .same

theorem scheduleCancel_effect (feed : Word) (s : State) : s.OwnerEffect (scheduleCancel feed s).1 := by
  unfold scheduleCancel
  split
  · exact .same
  · exact .cancelled _

theorem State.freeEntry_spec {s : State} {n : StationIx} (h : s.freeEntry = some n) :
    3 ≤ n.val ∧ (s.station n).member = none := by
  simpa using List.find?_some h

/-- An address word of at most 254 is its byte. -/
theorem byte_toNat_of_le {a : Word} (h : ¬ 254 < a.toNat) : (byte a.toNat).toNat = a.toNat := by
  simp only [byte, BitVec.toNat_ofNat]
  omega

theorem stationAdd_effect (feed address : Word) (s : State) : s.OwnerEffect (stationAdd feed address s).1 := by
  unfold stationAdd
  split
  · exact .same
  · split
    · exact .same
    · rename_i hbad
      simp only [Bool.or_eq_true, decide_eq_true_eq, not_or] at hbad
      split
      · exact .same
      · rename_i haddress
        split
        · exact .same
        · rename_i n hfree
          obtain ⟨hn, hmember⟩ := State.freeEntry_spec hfree
          exact .admitted n _ _ hn hmember (by rwa [byte_toNat_of_le hbad.2])

theorem stationRemove_effect (station : Word) (s : State) : s.OwnerEffect (stationRemove station s).1 := by
  unfold stationRemove
  split
  · exact .same
  · split
    · exact .same
    · split
      · exact .same
      · rename_i hn _ m hm
        split
        · exact .same
        · rename_i hrefs
          exact .removed _ m (by omega) hm (by omega)

theorem stationRead_state (station : Word) (s : State) : (stationRead station s).1 = s := by
  unfold stationRead
  split <;> rfl

theorem State.freeStream_spec {s : State} {n : StreamNo} (h : s.freeStream = some n) :
    (s.stream n).state = .free := by
  simpa using List.find?_some h

theorem streamCreate_effect (transmitter receiver : Word) (s : State) :
    s.OwnerEffect (streamCreate transmitter receiver s).1 := by
  unfold streamCreate
  split
  · split
    · rename_i hcan
      split
      · exact .same
      · rename_i n hfree
        exact .created n _ hcan (State.freeStream_spec hfree)
    · exact .same
  · exact .same

theorem streamDelete_effect (stream : Word) (s : State) : s.OwnerEffect (streamDelete stream s).1 := by
  unfold streamDelete
  split
  · exact .same
  · split
    · exact .same
    · rename_i e he
      split
      · exact .same
      · rename_i hrefs
        exact .deleted _ e he (by omega)

theorem streamRead_state (stream : Word) (s : State) : (streamRead stream s).1 = s := by
  unfold streamRead
  split <;> rfl

theorem linkSet_effect (link margin threshold : Word) (s : State) :
    s.OwnerEffect (linkSet link margin threshold s).1 := by
  unfold linkSet
  split
  · exact .same
  · split
    · exact .same
    · rename_i k hk
      exact .linkSet _ k _ _ hk

theorem linkRead_state (link : Word) (s : State) : (linkRead link s).1 = s := by
  unfold linkRead
  (repeat' split) <;> rfl

theorem readMap_state (s : State) (k : Link) (role zone : Nat) : (readMap s k role zone).1 = s := by
  unfold readMap
  (repeat' split) <;> rfl

theorem mapRead_state (link role zone : Word) (s : State) : (mapRead link role zone s).1 = s := by
  unfold mapRead
  split
  · split
    · rfl
    · exact readMap_state ..
  · rfl

theorem planNow_effect (link : Word) (s : State) : s.OwnerEffect (planNow link s).1 := by
  unfold planNow
  split
  · exact .same
  · split
    · exact .same
    · rename_i k hk
      exact .planned _ k hk

theorem channelRead_state (link zone block : Word) (s : State) : (channelRead link zone block s).1 = s := by
  unfold channelRead
  (repeat' split) <;> rfl

theorem positionRead_state (feed : Word) (s : State) : (positionRead feed s).1 = s := by
  unfold positionRead
  split <;> rfl

theorem eventRead_effect (s : State) : s.OwnerEffect (eventRead s).1 := by
  unfold eventRead
  split
  · exact .same
  · rename_i e rest he
    exact .eventTaken e rest he

theorem State.OwnerEffect.ite {s : State} {p : Prop} [Decidable p] {a b : Answer} (ha : s.OwnerEffect a.1)
    (hb : s.OwnerEffect b.1) : s.OwnerEffect (if p then a else b).1 := by
  split
  · exact ha
  · exact hb

theorem ownerOfOne_effect (code : Byte) (w : Word) (s : State) : s.OwnerEffect (ownerOfOne code w s).1 := by
  have reads {a : Answer} (h : a.1 = s) : s.OwnerEffect a.1 := h ▸ .same
  unfold ownerOfOne
  refine .ite (seqStart_effect w s) <| .ite (seqStop_effect w s) <| .ite (feedRestart_effect w s) <|
    .ite (scheduleCancel_effect w s) <| .ite (stationRemove_effect w s) <| .ite (reads (stationRead_state w s)) <|
    .ite (streamDelete_effect w s) <| .ite (reads (streamRead_state w s)) <| .ite (reads (linkRead_state w s)) <|
    .ite (planNow_effect w s) <| .ite (reads (positionRead_state w s)) <| .ite (.masked _) .same

theorem ownerOfTwo_effect (code : Byte) (v w : Word) (s : State) : s.OwnerEffect (ownerOfTwo code v w s).1 :=
  .ite (windowCount_effect v w s) <| .ite (scheduleActivate_effect v w s) <| .ite (stationAdd_effect v w s) <|
    .ite (streamCreate_effect v w s) .same

theorem ownerOfThree_effect (code : Byte) (u v w : Word) (s : State) :
    s.OwnerEffect (ownerOfThree code u v w s).1 := by
  have reads {a : Answer} (h : a.1 = s) : s.OwnerEffect a.1 := h ▸ .same
  exact .ite (reads (windowRead_state u v w s)) <| .ite (linkSet_effect u v w s) <|
    .ite (reads (mapRead_state u v w s)) <| .ite (reads (channelRead_state u v w s)) .same

/-- The owner of a command, whatever its code and words, does one of these things (R187). -/
theorem ownerOf_effect (code : Byte) (params : List Word) (s : State) :
    s.OwnerEffect (ownerOf code params s).1 := by
  unfold ownerOf
  split
  · split
    · exact eventRead_effect s
    · exact .same
  · exact ownerOfOne_effect ..
  · exact ownerOfTwo_effect ..
  · exact ownerOfThree_effect ..
  · split
    · exact windowWrite_effect ..
    · exact .same
  · split
    · exact notchSet_effect ..
    · exact .same
  · split
    · exact feedConfigure_effect ..
    · exact .same
  · exact .same

/-! ### Owners of the frames of a cycle link (R175, R177) -/

/-- What the owner of a good frame of cycle link f can make of the state in which it takes it. -/
inductive State.FrameEffect (s : State) (f : Feed) : State → Prop
  | answered (tag : Byte) (r : Response) (hr : r ≠ .mapData) : s.FrameEffect f (s.respond f tag r)
  | told (tag a : Byte) (r : Response) (hr : r ≠ .mapData) :
      s.FrameEffect f ((s.respond f tag r).offerEvent (.stationHeard f a))
  | fetched (tag : Byte) (l : LinkNo) (k : Link) (version : Byte) (zone : Nat) (named : ClaimedSet)
      (hk : s.link l = some k) (hf : k.record.feed = f) (hv : k.versioned version = some named)
      (hz : zone < s.zoneCount f) :
      s.FrameEffect f ((s.setClaim f (some ⟨l, k.record.generation, zone, named⟩)).respond f tag .mapData)
  | delivered (tag : Byte) (l : LinkNo) (k : Link) (zone ok failed : Nat) (r : Response) (hr : r ≠ .mapData)
      (hk : s.link l = some k) (hf : k.record.feed = f) :
      s.FrameEffect f ((s.tallyReport l k zone ok failed).respond f tag r)
  | idled (tag : Byte) (r : Response) (hr : r ≠ .mapData) (hnot : ∀ b gap, (s.clc.get f).report ≠ .open_ b gap) :
      s.FrameEffect f ((s.reportIdled f).respond f tag r)
  | opened (tag : Byte) (b : BufNo) (r : Report) (gap : Nat)
      (hnot : ∀ b gap, (s.clc.get f).report ≠ .open_ b gap) (hfree : (s.clc.get f).freeBuffer = some b) :
      s.FrameEffect f ((s.setClc f ((s.clc.get f).startReport b r gap)).respond f tag .accepted)
  | extended (tag : Byte) (b : BufNo) (r r' : Report) (gap : Nat) (ho : (s.clc.get f).openReport = some (b, r)) :
      s.FrameEffect f ((s.setClc f ((s.clc.get f).startReport b r' gap)).respond f tag .accepted)
  | closed (tag : Byte) (b : BufNo) (r r' : Report) (ho : (s.clc.get f).openReport = some (b, r)) :
      s.FrameEffect f (((s.setClc f { (s.clc.get f).setBuffer b (.full r') with report := .idle }).setPlanner
        { s.planner with foldQueue := s.planner.foldQueue ++ [⟨f, b⟩] }).respond f tag
          (.reportClosed r'.link r'.zone))
  | abandoned (tag : Byte) (b : BufNo) (r : Report) (code : Completion)
      (ho : (s.clc.get f).openReport = some (b, r)) :
      s.FrameEffect f (((s.setClc f ((s.clc.get f).closeReport .idle)).respond f tag (.refused code)).offerAbandoned
        f r .sequence)
  | aborted (tag : Byte) :
      s.FrameEffect f ((s.setClc f ((s.clc.get f).closeReport .idle)).respond f tag .accepted)

theorem State.linkOn_spec {s : State} {f : Feed} {b : Byte} {l : LinkNo} {k : Link}
    (h : s.linkOn f b = some (l, k)) : s.link l = some k ∧ k.record.feed = f := by
  simp only [State.linkOn, Option.bind_eq_some_iff, Option.ite_none_right_eq_some, Option.some.injEq,
    Prod.mk.injEq] at h
  obtain ⟨l', -, k', hk, hf, rfl, rfl⟩ := h
  exact ⟨hk, hf⟩

theorem State.fetch_effect (s : State) (f : Feed) (tag link version zone : Byte) :
    s.FrameEffect f (s.fetch f tag link version zone) := by
  unfold State.fetch
  split
  · exact .answered _ _ nofun
  · rename_i l k hlink
    obtain ⟨hk, hf⟩ := State.linkOn_spec hlink
    split
    · exact .answered _ _ nofun
    · rename_i named hv
      split
      · exact .answered _ _ nofun
      · exact .fetched tag l k version _ named hk hf hv (by omega)

theorem State.measureOpen_effect (s : State) (f : Feed) (tag link zone firstBlock blocks : Byte) :
    s.FrameEffect f (s.measureOpen f tag link zone firstBlock blocks) := by
  by_cases hopen : ∃ b gap, (s.clc.get f).report = .open_ b gap
  · obtain ⟨b, gap, h⟩ := hopen
    rw [State.measureOpen_of_open h]
    exact .answered _ _ nofun
  · have hnot : ∀ b gap, (s.clc.get f).report ≠ .open_ b gap := fun b gap h => hopen ⟨b, gap, h⟩
    rw [State.measureOpen_of_not_open hnot]
    unfold State.openNew
    split
    · exact .idled _ _ nofun hnot
    · rename_i b hb
      split
      · exact .idled _ _ nofun hnot
      · split
        · rw [State.reportIdled_get, Clc.startReport_of_report]
          simp only [State.reportIdled, State.setClc_setClc]
          exact .opened tag b _ _ hnot (by simpa [State.reportIdled_get, Clc.freeBuffer] using hb)
        · exact .idled _ _ nofun hnot

theorem State.acceptBlock_effect (s : State) (f : Feed) (tag : Byte) (b : BufNo) (r r' : Report)
    (ho : (s.clc.get f).openReport = some (b, r)) : s.FrameEffect f (s.acceptBlock f tag b r') := by
  unfold State.acceptBlock
  dsimp only
  split
  · exact .extended tag b r r' _ ho
  · exact .closed tag b r r' ho

theorem State.measureBlock_effect (s : State) (f : Feed) (tag sequence : Byte) (values : Vector Byte 8) :
    s.FrameEffect f (s.measureBlock f tag sequence values) := by
  unfold State.measureBlock
  split
  · rename_i b r ho
    split
    · exact s.acceptBlock_effect f tag b r _ ho
    · exact .abandoned tag b r _ ho
  · split
    · rename_i hremoved
      exact .idled _ _ nofun (by simp [hremoved])
    · exact .answered _ _ nofun

theorem State.deliver_effect (s : State) (f : Feed) (tag link zone : Byte) (ok failed : Word) (flags : Byte) :
    s.FrameEffect f (s.deliver f tag link zone ok failed flags) := by
  unfold State.deliver
  split
  · exact .answered _ _ nofun
  · rename_i l k hlink
    obtain ⟨hk, hf⟩ := State.linkOn_spec hlink
    split
    · exact .answered _ _ nofun
    · split
      · exact .delivered tag l k _ _ _ _ nofun hk hf
      · exact .answered _ _ nofun

theorem State.hear_effect (s : State) (f : Feed) (tag address : Byte) :
    s.FrameEffect f (s.hear f tag address) := by
  unfold State.hear
  split
  · exact .answered _ _ nofun
  · split
    · split <;> exact .answered _ _ nofun
    · dsimp only
      split
      · exact .answered _ _ nofun
      · exact .told _ _ _ nofun

/-- The owner of a good frame, whatever its type and payload, does one of these things (R175, R177). -/
theorem State.dispatchFrame_effect (s : State) (f : Feed) (tag type : Byte) (payload : List Byte) :
    s.FrameEffect f (s.dispatchFrame f tag type payload) := by
  have bad : s.FrameEffect f (s.refuseFrame f tag) := .answered _ _ nofun
  unfold State.dispatchFrame
  split
  · split
    · exact .aborted tag
    · split
      · exact .answered _ _ nofun
      · exact bad
  · split
    · exact s.hear_effect ..
    · exact bad
  · split
    · exact s.fetch_effect ..
    · exact bad
  · split
    · exact s.measureOpen_effect ..
    · exact bad
  · split
    · exact s.deliver_effect ..
    · exact bad
  · split
    · exact s.measureBlock_effect ..
    · exact bad
  · exact bad

end Sys2Proof.Machine
end

section
/-! The cases of a step, said once: `State.Effect` lists what a command other than DEVICE_RESET can make of the state,
and `step_keeps` packages the induction over a step for a property of the state. -/
namespace Sys2Proof.Machine

/-! ### Rows that spell a command of the port (R187) -/

/-- The port has judged a command: its owner has taken it in a state that differs in the port's own words alone, or the
write has been ignored; the event queue is the owner's. -/
inductive State.PortEffect (s : State) : State → Prop
  | words (m : Mgp) (hm : m.events = s.mgp.events) : s.PortEffect (s.setMgp m)
  | managed (m n : Mgp) (u : State) (hm : m.events = s.mgp.events) (hu : (s.setMgp m).OwnerEffect u)
      (hn : n.events = u.mgp.events) : s.PortEffect (u.setMgp n)

theorem State.setMgp_self (s : State) : s.setMgp s.mgp = s := rfl

theorem State.setMgp_setMgp (s : State) (m n : Mgp) : (s.setMgp m).setMgp n = s.setMgp n := rfl

theorem State.manage_effect {s : State} {m : Mgp} (hm : m.events = s.mgp.events) (code : Byte) (params : List Word)
    {owner : State → Answer} (ho : (s.setMgp m).OwnerEffect (owner (s.setMgp m)).1) :
    s.PortEffect ((s.setMgp m).manage code params owner) := by
  unfold State.manage
  split
  · exact .managed m _ _ hm ho rfl
  · exact .words _ hm

/-- A row of the port whose owner takes it in the state as it is. -/
theorem State.row_effect (s : State) (code : Byte) (params : List Word) {owner : State → Answer}
    (ho : s.OwnerEffect (owner s).1) : s.PortEffect (s.manage code params owner) :=
  State.manage_effect (m := s.mgp) rfl code params ho

theorem State.finishCommand_effect {s : State} {m : Mgp} (hm : m.events = s.mgp.events) (time : CompletionTime) :
    s.PortEffect ((s.setMgp m).finishCommand time) := by
  unfold State.finishCommand
  split
  · exact State.manage_effect hm _ _ (ownerOf_effect ..)
  · exact .words m hm

@[simp] theorem Mgp.writeCommand_events (m : Mgp) (w : Word) : (m.writeCommand w).events = m.events := by
  unfold Mgp.writeCommand
  split <;> rfl

@[simp] theorem Mgp.writeParam_events (m : Mgp) (w : Word) : (m.writeParam w).events = m.events := by
  unfold Mgp.writeParam
  split <;> rfl

@[simp] theorem Mgp.readPort_events (m : Mgp) (a : Fin 4) : (m.readPort a).events = m.events := by
  unfold Mgp.readPort Mgp.readStatus Mgp.readResult
  (repeat' split) <;> rfl

/-! ### The receiver of a cycle link (R170 to R174) -/

/-- The receiver of cycle link f has taken a code group or a frame: nothing has changed but its receiver, link and
DROPPED mark, and the event queue by a LINK_STATE at most. -/
def State.Received (s u : State) (f : Feed) : Prop :=
  ∃ link receiver dropped events,
    (events = s.mgp.events ∨ events = offerEventTo s.mgp.events (.linkState f true)) ∧
    u = { s with
      clc := s.clc.set f { s.clc.get f with link := link, receiver := receiver, dropped := dropped }
      mgp := { s.mgp with events := events } }

theorem State.received_setClc (s : State) (f : Feed) (link : LinkState) (receiver : Receiver) (dropped : Bool) :
    s.Received (s.setClc f { s.clc.get f with link := link, receiver := receiver, dropped := dropped }) f :=
  ⟨link, receiver, dropped, s.mgp.events, .inl rfl, rfl⟩

theorem State.received_self (s : State) (f : Feed) : s.Received s f :=
  ⟨(s.clc.get f).link, (s.clc.get f).receiver, (s.clc.get f).dropped, s.mgp.events, .inl rfl, by
    show s = { s with clc := s.clc.set f (s.clc.get f) }
    rw [PerFeed.set_get]⟩

theorem State.Received.setReceiver {s u : State} {f : Feed} (h : s.Received u f) (r : Receiver) :
    s.Received (u.setReceiver f r) f := by
  obtain ⟨link, receiver, dropped, events, he, rfl⟩ := h
  exact ⟨link, r, dropped, events, he, by simp [State.setReceiver, State.setClc]⟩

theorem State.Received.markDropped {s u : State} {f : Feed} (h : s.Received u f) : s.Received (u.markDropped f) f := by
  obtain ⟨link, receiver, dropped, events, he, rfl⟩ := h
  exact ⟨link, receiver, true, events, he, by simp [State.markDropped, State.setClc]⟩

theorem State.validSymbol_received (s : State) (f : Feed) : s.Received (s.validSymbol f) f := by
  unfold State.validSymbol
  split
  · exact ⟨_, (s.clc.get f).receiver, (s.clc.get f).dropped, s.mgp.events, .inl rfl, rfl⟩
  · exact s.received_self f

theorem State.eventsHeard_cases (s : State) (f : Feed) :
    s.eventsHeard f = s.mgp.events ∨ s.eventsHeard f = offerEventTo s.mgp.events (.linkState f true) := by
  unfold State.eventsHeard
  split
  · exact .inr rfl
  · exact .inl rfl

theorem State.heardFrame_received (s : State) (f : Feed) : s.Received (s.heardFrame f) f := by
  rw [State.heardFrame_eq]
  exact ⟨_, _, (s.clc.get f).dropped, _, s.eventsHeard_cases f, rfl⟩

/-- A valid symbol that is the END of a frame, and the arrival of that frame, move one deadline. -/
theorem State.heardFrame_validSymbol_received (s : State) (f : Feed) : s.Received ((s.validSymbol f).heardFrame f) f := by
  rw [State.heardFrame_eq]
  cases h : (s.clc.get f).link with
  | down =>
    have hs : s.validSymbol f = s := by simp [State.validSymbol, h]
    rw [hs, ← State.heardFrame_eq]
    exact s.heardFrame_received f
  | up d =>
    refine ⟨.up (s.now + Config.lossTicks), .waiting, (s.clc.get f).dropped, s.mgp.events, .inl rfl, ?_⟩
    simp [State.validSymbol, State.eventsHeard, State.setClc, h]

/-! ### The rows -/

/-- What a command other than DEVICE_RESET can make of the state, with what is known when it does. -/
inductive State.Effect (s : State) : State → Prop
  | same : s.Effect s
  | port (t : State) (h : s.PortEffect t) : s.Effect t
  | mains (f : Feed) (m : Mtu) (order : ChangeOrder)
      (hm : (∃ p, m = (s.mtu.get f).edge s.now p) ∨ m = (s.mtu.get f).enterAbsent ∨
        ((s.mtu.get f).windowDue s.now = true ∧ m = (s.mtu.get f).expireWindow s.now)) :
      s.Effect (s.mainsBecomes f m order)
  | origin (f : Feed) (order : BoundaryOrder) (o : PendingOrigin) :
      s.Effect ((s.setMtu f ((s.mtu.get f).originReached o)).takeOrigin f ⟨o.time, o.polarity, o.estimate⟩ order)
  | zonePassed (f : Feed) (rest : List ZoneDue) : s.Effect (s.setMtu f { s.mtu.get f with zonesDue := rest })
  | zoneTold (f : Feed) (rest : List ZoneDue) (zone phase : Nat) :
      s.Effect ((s.setMtu f { s.mtu.get f with zonesDue := rest }).offerZone f zone phase)
  | windowStart (f : Feed) (i : SlotNo) (hrun : (s.csq.get f).state = .running) : s.Effect (s.startWindow f i)
  | switchEnd (h : s.switchDue = true) : s.Effect s.endSwitch
  | received (f : Feed) (u : State) (h : s.Received u f) : s.Effect u
  | frame (f : Feed) (u t : State) (h : s.Received u f) (hslot : (u.clc.get f).slot = none)
      (ht : u.FrameEffect f t) : s.Effect t
  | lost (f : Feed) : s.Effect (s.loseLink f)
  | gapTold (f : Feed) (b : BufNo) (r : Report) (ho : (s.clc.get f).openReport = some (b, r)) :
      s.Effect ((s.setClc f ((s.clc.get f).closeReport .idle)).offerAbandoned f r .timeout)
  | gapClosed (f : Feed) : s.Effect (s.setClc f ((s.clc.get f).closeReport .idle))
  | responseEnded (f : Feed) (order : EndOrder) : s.Effect (s.endResponse f order)
  | noticeEnded (f : Feed) : s.Effect ((s.setClc f ((s.clc.get f).ended s.now)).chooseFrame f)
  | foldTaken (r : BufRef) (rest : List BufRef) (hidle : s.planner.engine = .idle)
      (hq : s.planner.foldQueue = r :: rest) :
      s.Effect ((s.setBuffer r ((s.clc.get r.feed).buffer r.buf).startFold).setPlanner
        { s.planner with engine := .folding r, foldQueue := rest })
  | folded (b : BufRef) (u : State) (hb : s.planner.engine = .folding b)
      (hu : u = s ∨ ∃ r, (s.clc.get b.feed).buffer b.buf = .folding r ∧ u = s.endFold r) :
      s.Effect ((u.setBuffer b .free).setPlanner { u.planner with engine := .idle })
  | planTaken (e : PlanEntry) (rest : Planner) (hidle : s.planner.engine = .idle)
      (hnext : s.planner.nextPlan = some (e, rest)) : s.Effect (s.takePlan e rest)
  | planWaits (job : PlanJob) (zones : List ZoneMap) (hjob : s.planner.engine = .planning job zones) :
      s.Effect (s.setPlanner { s.planner with engine := .waitingClaim job zones })
  | planDone (job : PlanJob) (zones : List ZoneMap) (hjob : s.planner.engine = .planning job zones) :
      s.Effect (s.completePlan job zones)

/-- A row of the port changes the state as its owner does. -/
theorem State.effect_of_manage (s : State) (code : Byte) (params : List Word) {owner : State → Answer}
    (ho : s.OwnerEffect (owner s).1) : s.Effect (s.manage code params owner) := .port _ (s.row_effect code params ho)

theorem State.effect_of_read (s : State) (code : Byte) (params : List Word) {owner : State → Answer}
    (ho : (owner s).1 = s) : s.Effect (s.manage code params owner) :=
  s.effect_of_manage code params (by rw [ho]; exact .same)

/-- A good frame that arrives is discarded, or taken by its owner. -/
theorem State.takeGood_effect {s u : State} {f : Feed} (h : s.Received u f) {owner : State → State}
    (ho : u.FrameEffect f (owner u)) : s.Effect (u.takeGood f owner) := by
  unfold State.takeGood
  split
  · exact .received f _ h.markDropped
  · rename_i hslot
    exact .frame f u _ h hslot ho

theorem State.takeFrame_effect (s : State) (f : Feed) {owner : State → State}
    (ho : ∀ u : State, u.FrameEffect f (owner u)) : s.Effect (s.takeFrame f owner) :=
  State.takeGood_effect (s.heardFrame_received f) (ho _)

theorem State.received_guarded_symbol (s : State) (f : Feed) (p : Prop) [Decidable p] :
    s.Received (if p then s else s.validSymbol f) f := by
  split
  · exact s.received_self f
  · exact s.validSymbol_received f

theorem State.judgeFrame_effect (s : State) (f : Feed) (bytes : List Byte) :
    s.Effect ((s.validSymbol f).judgeFrame f bytes) := by
  have waits : s.Effect ((s.validSymbol f).setReceiver f .waiting) :=
    .received f _ ((s.validSymbol_received f).setReceiver _)
  unfold State.judgeFrame
  split
  · split
    · split
      · exact State.takeGood_effect (s.heardFrame_validSymbol_received f) (State.dispatchFrame_effect ..)
      · exact .received f _ (s.heardFrame_validSymbol_received f)
    · exact waits
  · exact waits

theorem execSymbolReceived_effect (f : Feed) (g : CodeGroup) (s : State) :
    ∃ t, execSymbolReceived f g s = .next t ∧ s.Effect t := by
  refine ⟨_, rfl, ?_⟩
  have h := s.received_guarded_symbol f (g = .invalid)
  dsimp only
  split
  · split
    · exact .received f _ (h.setReceiver _)
    · exact .received f _ h
  · unfold State.collect
    split
    · exact .received f _ (h.setReceiver _)
    · exact .received f _ (h.setReceiver _)
    · exact .received f _ (h.setReceiver _)
    · split
      · exact s.judgeFrame_effect f _
      · exact .received f _ (h.setReceiver _)
    · split <;> exact .received f _ (h.setReceiver _)

theorem execFrameDiscarded_effect (f : Feed) (why : Discard) (s : State) :
    ∃ t, execFrameDiscarded f why s = .next t ∧ s.Effect t := by
  refine ⟨_, rfl, ?_⟩
  cases why with
  | cutShort g | endMissing g => exact .received f _ ((s.received_guarded_symbol f _).setReceiver _)
  | overlong | badCrc => exact .received f _ ((s.validSymbol_received f).setReceiver _)
  | badComplement => exact .received f _ (s.heardFrame_received f)
  | slotOccupied =>
    dsimp only
    split
    · exact .received f _ (s.heardFrame_received f).markDropped
    · exact .same

theorem execOrigin_effect (f : Feed) (order : BoundaryOrder) (s : State) :
    ∃ t, execOrigin f order s = .next t ∧ s.Effect t := by
  refine ⟨_, rfl, ?_⟩
  split
  · split
    · exact .origin f order _
    · exact .same
  · exact .same

theorem execZoneEvent_effect (f : Feed) (s : State) : ∃ t, execZoneEvent f s = .next t ∧ s.Effect t := by
  refine ⟨_, rfl, ?_⟩
  split
  · split
    · dsimp only
      split
      · exact .zoneTold f _ _ _
      · exact .zonePassed f _
    · exact .same
  · exact .same

theorem execWindowStart_effect (f : Feed) (s : State) : ∃ t, execWindowStart f s = .next t ∧ s.Effect t := by
  refine ⟨_, rfl, ?_⟩
  split
  · rename_i hrun _
    split
    · exact .windowStart f _ hrun
    · exact .same
  · exact .same

theorem execGapDeadlineExpiry_effect (f : Feed) (s : State) :
    ∃ t, execGapDeadlineExpiry f s = .next t ∧ s.Effect t := by
  refine ⟨_, rfl, ?_⟩
  split
  · dsimp only
    split
    · rename_i b r ho
      exact .gapTold f b r ho
    · exact .gapClosed f
  · exact .same

theorem execFrameEndSent_effect (f : Feed) (order : EndOrder) (s : State) :
    ∃ t, execFrameEndSent f order s = .next t ∧ s.Effect t := by
  refine ⟨_, rfl, ?_⟩
  split
  · split
    · exact .responseEnded f order
    · exact .noticeEnded f
  · exact .same

theorem execFoldJobTake_effect (s : State) : ∃ t, execFoldJobTake s = .next t ∧ s.Effect t := by
  refine ⟨_, rfl, ?_⟩
  split
  · rename_i r rest hidle hq
    exact .foldTaken r rest hidle hq
  · exact .same

theorem execFoldComplete_effect (s : State) : ∃ t, execFoldComplete s = .next t ∧ s.Effect t := by
  refine ⟨_, rfl, ?_⟩
  split
  · rename_i b hb
    dsimp only
    split
    · rename_i r hr
      exact .folded b _ hb (.inr ⟨r, hr, rfl⟩)
    · exact .folded b _ hb (.inl rfl)
  · exact .same

theorem execPlanJobTake_effect (s : State) : ∃ t, execPlanJobTake s = .next t ∧ s.Effect t := by
  refine ⟨_, rfl, ?_⟩
  split
  · rename_i hidle _
    split
    · rename_i e rest hnext
      exact .planTaken e rest hidle hnext
    · exact .same
  · exact .same

theorem execPlanComputeEnd_effect (s : State) : ∃ t, execPlanComputeEnd s = .next t ∧ s.Effect t := by
  refine ⟨_, rfl, ?_⟩
  split
  · rename_i job zones hjob
    split
    · exact .planWaits job zones hjob
    · exact .planDone job zones hjob
  · exact .same

theorem effect_of_if {s t : State} {p : Prop} [Decidable p] (h : p → s.Effect t) :
    s.Effect (if p then t else s) := by
  split
  · rename_i hp
    exact h hp
  · exact .same

/-- Every command but DEVICE_RESET answers a next state, which is one of the cases of `State.Effect`. -/
theorem exec_effect (c : Instr) (s : State) (hc : c ≠ .deviceReset) : ∃ t, exec c s = .next t ∧ s.Effect t := by
  cases c with
  | deviceReset => exact absurd rfl hc
  | mainsEdge f p o => exact ⟨_, rfl, .mains f _ o (.inl ⟨p, rfl⟩)⟩
  | silenceDeadlineExpiry f o => exact ⟨_, rfl, effect_of_if fun _ => .mains f _ o (.inr (.inl rfl))⟩
  | acceptanceWindowExpiry f o => exact ⟨_, rfl, effect_of_if fun h => .mains f _ o (.inr (.inr ⟨h, rfl⟩))⟩
  | origin f o => exact execOrigin_effect f o s
  | zoneEvent f => exact execZoneEvent_effect f s
  | windowStart f => exact execWindowStart_effect f s
  | switchCompletion => exact ⟨_, rfl, effect_of_if .switchEnd⟩
  | feedConfigure => exact ⟨_, rfl, s.effect_of_manage _ _ (feedConfigure_effect ..)⟩
  | notchSet => exact ⟨_, rfl, s.effect_of_manage _ _ (notchSet_effect ..)⟩
  | seqStart => exact ⟨_, rfl, s.effect_of_manage _ _ (seqStart_effect ..)⟩
  | seqStop => exact ⟨_, rfl, s.effect_of_manage _ _ (seqStop_effect ..)⟩
  | feedRestart => exact ⟨_, rfl, s.effect_of_manage _ _ (feedRestart_effect ..)⟩
  | windowWrite => exact ⟨_, rfl, s.effect_of_manage _ _ (windowWrite_effect ..)⟩
  | windowCount => exact ⟨_, rfl, s.effect_of_manage _ _ (windowCount_effect ..)⟩
  | windowRead => exact ⟨_, rfl, s.effect_of_read _ _ (windowRead_state ..)⟩
  | scheduleActivate => exact ⟨_, rfl, s.effect_of_manage _ _ (scheduleActivate_effect ..)⟩
  | scheduleCancel => exact ⟨_, rfl, s.effect_of_manage _ _ (scheduleCancel_effect ..)⟩
  | stationAdd => exact ⟨_, rfl, s.effect_of_manage _ _ (stationAdd_effect ..)⟩
  | stationRemove => exact ⟨_, rfl, s.effect_of_manage _ _ (stationRemove_effect ..)⟩
  | stationRead => exact ⟨_, rfl, s.effect_of_read _ _ (stationRead_state ..)⟩
  | streamCreate => exact ⟨_, rfl, s.effect_of_manage _ _ (streamCreate_effect ..)⟩
  | streamDelete => exact ⟨_, rfl, s.effect_of_manage _ _ (streamDelete_effect ..)⟩
  | streamRead => exact ⟨_, rfl, s.effect_of_read _ _ (streamRead_state ..)⟩
  | linkSet => exact ⟨_, rfl, s.effect_of_manage _ _ (linkSet_effect ..)⟩
  | linkRead => exact ⟨_, rfl, s.effect_of_read _ _ (linkRead_state ..)⟩
  | mapRead => exact ⟨_, rfl, s.effect_of_read _ _ (mapRead_state ..)⟩
  | planNow => exact ⟨_, rfl, s.effect_of_manage _ _ (planNow_effect ..)⟩
  | channelRead => exact ⟨_, rfl, s.effect_of_read _ _ (channelRead_state ..)⟩
  | positionRead => exact ⟨_, rfl, s.effect_of_read _ _ (positionRead_state ..)⟩
  | eventRead => exact ⟨_, rfl, s.effect_of_manage _ _ (eventRead_effect s)⟩
  | eventMask => exact ⟨_, rfl, s.effect_of_manage _ _ (.masked _)⟩
  | unknownCommand => exact ⟨_, rfl, s.effect_of_manage _ _ (ownerOf_effect ..)⟩
  | paramWrite w time =>
    refine ⟨_, rfl, .port _ ?_⟩
    dsimp only
    split
    · exact State.finishCommand_effect (by simp) time
    · exact .words _ (by simp)
  | statusRead => exact ⟨_, rfl, .port _ (.words _ (by simp))⟩
  | resultRead => exact ⟨_, rfl, .port _ (.words _ (by simp))⟩
  | ignoredWrite => exact ⟨_, rfl, .same⟩
  | mapFetch f => exact ⟨_, rfl, s.takeFrame_effect f fun u => u.fetch_effect ..⟩
  | measureOpen f => exact ⟨_, rfl, s.takeFrame_effect f fun u => u.measureOpen_effect ..⟩
  | measureBlock f => exact ⟨_, rfl, s.takeFrame_effect f fun u => u.measureBlock_effect ..⟩
  | measureAbort f => exact ⟨_, rfl, s.takeFrame_effect f fun u => .aborted _⟩
  | deliveryReport f => exact ⟨_, rfl, s.takeFrame_effect f fun u => u.deliver_effect ..⟩
  | heard f => exact ⟨_, rfl, s.takeFrame_effect f fun u => u.hear_effect ..⟩
  | positionQuery f => exact ⟨_, rfl, s.takeFrame_effect f fun u => .answered _ _ nofun⟩
  | unknownFrame f => exact ⟨_, rfl, s.takeFrame_effect f fun u => u.dispatchFrame_effect ..⟩
  | frameDiscarded f why => exact execFrameDiscarded_effect f why s
  | lossDeadlineExpiry f => exact ⟨_, rfl, effect_of_if fun _ => .lost f⟩
  | gapDeadlineExpiry f => exact execGapDeadlineExpiry_effect f s
  | frameEndSent f o => exact execFrameEndSent_effect f o s
  | foldJobTake => exact execFoldJobTake_effect s
  | foldComplete => exact execFoldComplete_effect s
  | planJobTake => exact execPlanJobTake_effect s
  | planComputeEnd => exact execPlanComputeEnd_effect s
  | symbolReceived f g => exact execSymbolReceived_effect f g s
  | commandWordWrite w time =>
    refine ⟨_, rfl, .port _ ?_⟩
    dsimp only
    split
    · exact State.finishCommand_effect (by simp) time
    · exact .words _ (by simp)

theorem exec_next_effect {c : Instr} {s t : State} (hc : c ≠ .deviceReset) (h : exec c s = .next t) : s.Effect t := by
  obtain ⟨u, hu, he⟩ := exec_effect c s hc
  cases h.symm.trans hu
  exact he

/-! ### Steps -/

theorem whenDue_subset {due : Bool} {i c : Instr} (h : c ∈ whenDue due i) : c = i := by
  unfold whenDue at h
  split at h <;> simp_all

theorem State.dueEvents_ne_reset {s : State} {n : Nat} {c : Instr} (h : c ∈ s.dueEvents n) : c ≠ .deviceReset := by
  rintro rfl
  have hplan : Instr.deviceReset ∉ s.planner.due := by
    unfold Planner.due
    (repeat' split) <;> simp [whenDue]
  simp [State.dueEvents, State.dueOn, whenDue, hplan] at h

theorem pickEvent_mem (n : Nat) (i : Instr) (rest : List Instr) : pickEvent n i rest ∈ i :: rest := by
  unfold pickEvent
  split
  · simp
  · have hlt : Config.freeChoice n % (rest.length + 1) < (i :: rest).length := Nat.mod_lt _ (by simp)
    rw [List.getD_eq_getElem _ _ hlt]
    exact List.getElem_mem hlt

/-- A step is the reset of the part, a tick, or one of the cases of a command, in a state that differs from the one
before it in the queue and the counter of free values alone. -/
theorem step_cases {s t : State} (h : step s = .next t) :
    (∃ p n, t = { State.reset with pending := p, choices := n }) ∨ t = { s with now := s.now + 1 } ∨
      ∃ p n, ({ s with pending := p, choices := n } : State).Effect t := by
  unfold step at h
  split at h
  · unfold idle at h
    split at h
    · cases h
      exact .inr (.inl rfl)
    · rename_i i rest hdue
      have hmem : pickEvent s.choices i rest ∈ s.dueEvents (s.choices + 1) := hdue ▸ pickEvent_mem ..
      exact .inr (.inr ⟨s.pending, s.choices + 2, exec_next_effect (State.dueEvents_ne_reset hmem) h⟩)
  · rename_i c rest _
    by_cases hc : c = .deviceReset
    · subst hc
      cases h
      exact .inl ⟨rest, s.choices, rfl⟩
    · exact .inr (.inr ⟨rest, s.choices, exec_next_effect hc h⟩)

/-- A property of the state that the tick count, the queue and the counter of free values do not touch, that holds
after reset and that every case of a command keeps, is kept by every step. -/
theorem step_keeps {P : State → Prop} (hreset : P State.reset)
    (hclock : ∀ (s : State) (n c : Nat) (p : List Instr), P s → P { s with now := n, pending := p, choices := c })
    (heffect : ∀ s t : State, P s → s.Effect t → P t) {s t : State} (hs : P s) (h : step s = .next t) : P t := by
  obtain ⟨p, n, rfl⟩ | rfl | ⟨p, n, he⟩ := step_cases h
  · exact hclock _ _ _ _ hreset
  · exact hclock _ _ _ _ hs
  · exact heffect _ t (hclock _ _ _ _ hs) he

end Sys2Proof.Machine
end

section
/-! Chapter 1, what a step keeps of the mains timebase (R4, R7): the ranges of the estimate, the history and the runs. -/
namespace Sys2Proof.Machine

/-! ### The estimate of a history in band (R4) -/

theorem inBand_iff {d : Nat} : inBand d = true ↔ 187500 ≤ d ∧ d ≤ 275000 := by
  rw [inBand, Bool.and_eq_true, decide_eq_true_iff, decide_eq_true_iff]
  rfl

/-- The mean of eight intervals in band is in band. -/
theorem inBand_estimateOf {l : List Nat} (hl : l.length = 8) (h : ∀ d ∈ l, inBand d = true) :
    inBand (estimateOf l) = true := by
  have low : l.length • 187500 ≤ l.sum := List.card_nsmul_le_sum l _ fun d hd => (inBand_iff.mp (h d hd)).1
  have high : l.sum ≤ l.length • 275000 := List.sum_le_card_nsmul l _ fun d hd => (inBand_iff.mp (h d hd)).2
  rw [hl, smul_eq_mul] at low high
  rw [inBand_iff, estimateOf]
  omega

/-! ### One MTU -/

namespace Mtu.Sound

variable {m : Mtu}

/-- What the other fields of an MTU hold does not matter to its soundness. -/
theorem congr (h : m.Sound) {n : Mtu} (hs : n.state = m.state) (hp : n.period = m.period)
    (hh : n.history = m.history) (hm : n.missRun = m.missRun) (hd : n.deviantRun = m.deviantRun) : n.Sound := by
  unfold Mtu.Sound
  rw [hs, hp, hh, hm, hd]
  exact h

theorem enterAbsent (h : m.Sound) : m.enterAbsent.Sound := by
  obtain ⟨hperiod, -⟩ := h
  exact ⟨hperiod, by simp [Mtu.enterAbsent], nofun, by simp [Mtu.enterAbsent], Nat.zero_le _, Nat.zero_le _⟩

theorem anchor (h : m.Sound) (t : Nat) (p : Polarity) : (m.anchor t p).Sound := by
  obtain ⟨hperiod, -⟩ := h
  exact ⟨hperiod, by simp [Mtu.anchor, Mtu.enterAbsent], fun _ => by simp [Mtu.anchor, Mtu.enterAbsent],
    by simp [Mtu.anchor], Nat.zero_le _, Nat.zero_le _⟩

theorem lock (h : m.Sound) (hlen : m.history.length + 1 = 8) {d : Nat} (hd : inBand d = true) (t : Nat)
    (p : Polarity) : (m.lock t p (m.history ++ [d])).Sound := by
  obtain ⟨-, hhistory, -⟩ := h
  have hall : ∀ x ∈ m.history ++ [d], inBand x = true := by
    simp only [List.mem_append, List.mem_singleton]
    rintro x (hx | rfl)
    · exact hhistory x hx
    · exact hd
  have hl : (m.history ++ [d]).length = 8 := by simpa using hlen
  have hperiod := inBand_estimateOf hl hall
  exact ⟨.inr hperiod, hall, nofun, fun _ => ⟨hl, hperiod⟩, Nat.zero_le _, Nat.zero_le _⟩

theorem acquiringEdge (h : m.Sound) (hacq : m.state = .acquiring) (a : Crossing) (t : Nat) (p : Polarity) :
    (m.acquiringEdge a t p).Sound := by
  unfold Mtu.acquiringEdge
  dsimp only
  split
  · exact h.congr rfl rfl rfl rfl rfl
  · rename_i hlow
    split
    · rename_i hhigh
      simp only [Bool.and_eq_true, decide_eq_true_eq] at hhigh
      have hd : inBand (t - a.time) = true := by simp [inBand, Nat.not_lt.mp hlow, hhigh.1]
      split
      · rename_i hlen
        exact h.lock hlen hd t p
      · rename_i hlen
        obtain ⟨hperiod, hhistory, hshort, -, hmiss, hdev⟩ := h
        refine ⟨hperiod, ?_, fun _ => ?_, by simp [hacq], hmiss, hdev⟩
        · simp only [List.mem_append, List.mem_singleton]
          rintro x (hx | rfl)
          · exact hhistory x hx
          · exact hd
        · have := hshort hacq
          simp
          omega
    · obtain ⟨hperiod, -, -, -, hmiss, hdev⟩ := h
      exact ⟨hperiod, by simp, fun _ => by simp, by simp [hacq], hmiss, hdev⟩

/-- A crossing taken while tracking keeps eight intervals in band, and P with them (R7). -/
theorem accept (h : m.Sound) (htrack : m.state = .locked ∨ m.state = .freeRun) {a : Crossing} {t : Nat}
    (hd : inBand (t - a.time) = true) (p : Polarity) : (m.accept a t p).Sound := by
  obtain ⟨-, hhistory, -, hlocked, -⟩ := h
  obtain ⟨hlen, hband⟩ := hlocked htrack
  unfold Mtu.accept
  cases a.kind with
  | synthesised =>
    exact ⟨.inr hband, hhistory, nofun, fun _ => ⟨hlen, hband⟩, Nat.zero_le _, Nat.zero_le _⟩
  | real =>
    have hall : ∀ x ∈ m.history.drop 1 ++ [t - a.time], inBand x = true := by
      simp only [List.mem_append, List.mem_singleton]
      rintro x (hx | rfl)
      · exact hhistory x (List.mem_of_mem_drop hx)
      · exact hd
    have hl : (m.history.drop 1 ++ [t - a.time]).length = 8 := by simp [hlen]
    have hperiod := inBand_estimateOf hl hall
    exact ⟨.inr hperiod, hall, nofun, fun _ => ⟨hl, hperiod⟩, Nat.zero_le _, Nat.zero_le _⟩

theorem trackingEdge (h : m.Sound) (htrack : m.state = .locked ∨ m.state = .freeRun) (a : Crossing) (t : Nat)
    (p : Polarity) : (m.trackingEdge a t p).Sound := by
  unfold Mtu.trackingEdge
  split
  · rename_i hacc
    simp only [Mtu.accepts, Bool.and_eq_true] at hacc
    exact h.accept htrack hacc.2 p
  · split
    · split
      · exact h.anchor t p
      · rename_i hfew
        obtain ⟨hperiod, hhistory, hshort, hlocked, hmiss, hdev⟩ := h
        exact ⟨hperiod, hhistory, hshort, hlocked, hmiss, by show m.deviantRun + 1 ≤ 3; omega⟩
    · exact h

theorem edge (h : m.Sound) (t : Nat) (p : Polarity) : (m.edge t p).Sound := by
  unfold Mtu.edge
  split
  · rename_i hacq _
    exact h.acquiringEdge hacq _ t p
  · rename_i hlocked _
    exact h.trackingEdge (.inl hlocked) _ t p
  · rename_i hfree _
    exact h.trackingEdge (.inr hfree) _ t p
  · exact h.anchor t p

theorem expireWindow (h : m.Sound) {now : Nat} (hdue : m.windowDue now = true) : (m.expireWindow now).Sound := by
  simp only [Mtu.windowDue, Bool.and_eq_true, Bool.or_eq_true, decide_eq_true_eq] at hdue
  unfold Mtu.expireWindow
  split
  · split
    · rename_i hfew
      obtain ⟨hperiod, hhistory, -, hlocked, -, hdev⟩ := h
      exact ⟨hperiod, hhistory, nofun, fun _ => hlocked hdue.1, by show m.missRun + 1 ≤ 49; omega, hdev⟩
    · exact h.enterAbsent
  · exact h.enterAbsent

theorem configure (h : m.Sound) (offset : Nat) (bs : List Nat) (now : Nat) : (m.configure offset bs now).Sound :=
  h.congr rfl rfl rfl rfl rfl

theorem originReached (h : m.Sound) (o : PendingOrigin) : (m.originReached o).Sound := h.congr rfl rfl rfl rfl rfl

theorem zonesDue (h : m.Sound) (rest : List ZoneDue) : ({ m with zonesDue := rest } : Mtu).Sound :=
  h.congr rfl rfl rfl rfl rfl

end Mtu.Sound

/-! ### The MTUs of the part -/

theorem State.MainsSound.congr {s t : State} (hs : s.MainsSound) (h : t.mtu = s.mtu) : t.MainsSound := fun f => by
  rw [h]
  exact hs f

theorem State.MainsSound.set {s t : State} (hs : s.MainsSound) (f : Feed) {m : Mtu} (hm : m.Sound)
    (h : t.mtu = s.mtu.set f m) : t.MainsSound := fun g => by
  rw [h, PerFeed.get_set]
  split
  · exact hm
  · exact hs g

@[simp] theorem State.configure_mtu (s : State) (f : Feed) (offset beaconLen : Nat) (a : Byte) (bs : List Nat) :
    (s.configure f offset beaconLen a bs).mtu = s.mtu.set f ((s.mtu.get f).configure offset bs s.now) := by
  simp [State.configure]

@[simp] theorem State.restartMains_mtu (s : State) (f : Feed) :
    (s.restartMains f).mtu = s.mtu.set f (s.mtu.get f).enterAbsent := by
  unfold State.restartMains
  split <;> simp

@[simp] theorem State.mainsBecomes_mtu (s : State) (f : Feed) (m : Mtu) (order : ChangeOrder) :
    (s.mainsBecomes f m order).mtu = s.mtu.set f m := by simp [State.mainsBecomes]

@[simp] theorem State.activate_mtu (s : State) (f : Feed) (n : Nat) : (s.activate f n).1.mtu = s.mtu := by
  simp only [State.activate]
  split <;> simp

theorem State.notched_mtu (s : State) (l : List LinkNo) :
    (s.forEach l fun t x => t.offerUrgent x .notch).mtu = s.mtu := State.forEach_mtu _ _ (by simp) s

theorem State.OwnerEffect.mainsSound {s t : State} (h : s.OwnerEffect t) (hs : s.MainsSound) : t.MainsSound := by
  cases h with
  | configured f offset beaconLen a bs => exact hs.set f ((hs f).configure offset bs s.now) (by simp)
  | restarted f => exact hs.set f (hs f).enterAbsent (by simp)
  | notched f m => exact hs.congr (State.notched_mtu ..)
  | _ => exact hs.congr (by simp)

theorem State.FrameEffect.mtu_eq {s t : State} {f : Feed} (h : s.FrameEffect f t) : t.mtu = s.mtu := by
  cases h <;> simp [State.reportIdled]

theorem State.Received.mtu_eq {s u : State} {f : Feed} (h : s.Received u f) : u.mtu = s.mtu := by
  obtain ⟨_, _, _, _, _, rfl⟩ := h
  rfl

theorem State.PortEffect.mainsSound {s t : State} (h : s.PortEffect t) (hs : s.MainsSound) : t.MainsSound := by
  cases h with
  | words m => exact hs.congr rfl
  | managed m n u hm hu hn => exact (hu.mainsSound (hs.congr rfl)).congr rfl

theorem State.Effect.mainsSound {s t : State} (h : s.Effect t) (hs : s.MainsSound) : t.MainsSound := by
  cases h with
  | port t h => exact h.mainsSound hs
  | mains f m order hm =>
    refine hs.set f (m := m) ?_ (by simp)
    obtain ⟨p, rfl⟩ | rfl | ⟨hdue, rfl⟩ := hm
    · exact (hs f).edge s.now p
    · exact (hs f).enterAbsent
    · exact (hs f).expireWindow hdue
  | origin f order o => exact hs.set f ((hs f).originReached o) (by simp)
  | zonePassed f rest => exact hs.set f ((hs f).zonesDue rest) rfl
  | zoneTold f rest zone phase => exact hs.set f ((hs f).zonesDue rest) (by simp)
  | received f u h => exact hs.congr h.mtu_eq
  | frame f u t h hslot ht => exact hs.congr (ht.mtu_eq.trans h.mtu_eq)
  | folded b u hb hu => obtain rfl | ⟨r, -, rfl⟩ := hu <;> exact hs.congr (by simp)
  | _ => exact hs.congr (by simp)

theorem State.reset_mainsSound : State.reset.MainsSound := fun f => by
  simp [State.reset, Mtu.reset, Mtu.Sound]

/-- Settles O5: every case of a step takes each MTU from a sound one to a sound one. -/
theorem stepsKeepThePeriodInBand : Obligations.StepsKeepThePeriodInBand := fun _ _ hs h =>
  step_keeps State.reset_mainsSound (fun _ _ _ _ hs => hs.congr rfl) (fun _ _ hs he => he.mainsSound hs) hs h

end Sys2Proof.Machine
end

section
/-! Chapters 2 and 3, what each operation makes of the sequencers: one equation for each operation that changes one. -/
namespace Sys2Proof.Machine

/-! ### Records of a feed under an update -/

/-- Writing over a record that is read back from its table. -/
theorem PerFeed.set_of_get_eq {α : Type} {t : PerFeed α} {f : Feed} {x : α} (h : t.get f = x) : t.set f x = t := by
  rw [← h, PerFeed.set_get]

/-! ### Schedules (R34 to R41) -/

@[simp] theorem State.cancelPending_csq (s : State) (f : Feed) :
    (s.cancelPending f).csq = s.csq.set f { s.csq.get f with pendingState := .edit } := by
  unfold State.cancelPending
  split
  · rename_i h
    rw [← h, PerFeed.set_of_get_eq rfl]
  · simp

@[simp] theorem State.exchangeRoles_csq (s : State) (f : Feed) :
    (s.exchangeRoles f).csq =
      s.csq.set f { s.csq.get f with current := (s.csq.get f).pendingNo, pendingState := .edit } := by
  simp [State.exchangeRoles]

/-- What SCHEDULE_ACTIVATE makes of a sequencer (R35, R36). -/
def Csq.activated (q : Csq) (n : Nat) : Csq :=
  if q.state = .stopped then { q with current := q.pendingNo, pendingState := .edit }
  else { q with pendingState := .counting n }

@[simp] theorem State.activate_csq (s : State) (f : Feed) (n : Nat) :
    (s.activate f n).1.csq = s.csq.set f ((s.csq.get f).activated n) := by
  simp only [State.activate, Csq.activated]
  split <;> simp

@[simp] theorem State.configure_csq (s : State) (f : Feed) (offset beaconLen : Nat) (a : Byte) (bs : List Nat) :
    (s.configure f offset beaconLen a bs).csq =
      s.csq.set f { s.csq.get f with pendingState := .edit, beaconLen := beaconLen } := by
  simp [State.configure]

/-- What a beacon boundary makes of the pending bank (R37). -/
def Csq.counted (q : Csq) : Csq :=
  match q.pendingState with
  | .edit => q
  | .counting n =>
      if n ≤ 1 then { q with current := q.pendingNo, pendingState := .edit }
      else { q with pendingState := .counting (n - 1) }

@[simp] theorem State.countPending_csq (s : State) (f : Feed) :
    (s.countPending f).csq = s.csq.set f (s.csq.get f).counted := by
  unfold State.countPending Csq.counted
  split
  · rename_i h
    simp [h]
  · rename_i n h
    simp only [h]
    split <;> simp

/-! ### Playing (R46 to R51) -/

@[simp] theorem State.enterSeq_csq (s : State) (f : Feed) (st : SeqState) :
    (s.enterSeq f st).csq = s.csq.set f { s.csq.get f with state := st } := by simp [State.enterSeq]

@[simp] theorem State.withdraw_csq (s : State) (f : Feed) :
    (s.withdraw f).csq = s.csq.set f { s.csq.get f with heldClaim := none } := by
  unfold State.withdraw
  split
  · simp
  · rename_i h
    rw [← h, PerFeed.set_of_get_eq rfl]

@[simp] theorem State.endPlayback_csq (s : State) (f : Feed) :
    (s.endPlayback f).csq =
      s.csq.set f { s.csq.get f with currentWindow := none, armed := [], halfIndex := 0, heldClaim := none } := by
  simp [State.endPlayback]

@[simp] theorem State.handClaim_csq (s : State) (f : Feed) (cls : ClaimClass) (i : SlotNo) :
    (s.handClaim f cls i).csq = s.csq.set f { s.csq.get f with heldClaim := cls } := by
  simp only [State.handClaim]
  split
  · simp
  · simp
  · simp
  · rename_i h
    rw [← h, PerFeed.set_of_get_eq rfl]

/-- A sequencer once window i has begun with a class (R50). -/
def Csq.begun (q : Csq) (i : SlotNo) (cls : ClaimClass) : Csq :=
  { q with currentWindow := some i, armed := q.armed.filter (·.slot ≠ i), heldClaim := cls }

@[simp] theorem State.startWindow_csq (s : State) (f : Feed) (i : SlotNo) :
    (s.startWindow f i).csq =
      s.csq.set f ((s.csq.get f).begun i (s.claimClass f ((s.csq.get f).currentBank.slot i))) := by
  simp only [State.startWindow, State.handClaim_csq, State.offerWindow_frame, State.setCsq_csq, PerFeed.get_set_self,
    PerFeed.set_set]
  rfl

@[simp] theorem State.skipUnreached_csq (s : State) (f : Feed) :
    (s.skipUnreached f).csq = s.csq.set f { s.csq.get f with armed := [] } := by
  have h : (s.forEach (s.csq.get f).armed fun t a => t.offerWindow f a.slot 0 true).csq = s.csq :=
    State.forEach_csq _ _ (by simp) s
  simp [State.skipUnreached, h]

@[simp] theorem State.playBoundary_csq (s : State) (f : Feed) (order : BoundaryOrder) :
    (s.playBoundary f order).csq = s.csq.set f
      ({ s.csq.get f with currentWindow := none, beaconCount := (s.csq.get f).beaconCount + 1 } : Csq).counted := by
  simp [State.playBoundary]

/-- A sequencer once the starts of its half-cycle are armed, the first of them begun when it stands at phase 0. -/
theorem State.armStarts_csq (s : State) (f : Feed) :
    ∃ window armed held, (s.armStarts f).csq =
        s.csq.set f { s.csq.get f with currentWindow := window, armed := armed, heldClaim := held } := by
  simp only [State.armStarts]
  split
  · split
    · simp only [State.startWindow_csq, State.setCsq_csq, PerFeed.get_set_self, PerFeed.set_set]
      exact ⟨_, _, _, rfl⟩
    · exact ⟨(s.csq.get f).currentWindow, _, (s.csq.get f).heldClaim, rfl⟩
  · exact ⟨(s.csq.get f).currentWindow, _, (s.csq.get f).heldClaim, rfl⟩

/-- A sequencer that has taken an origin as a half index, before its starts are armed (R46 steps 1 to 3). -/
def Csq.played (q : Csq) (half : Nat) (o : OriginRecord) : Csq :=
  let q1 : Csq := { q with armed := [], halfIndex := half, halfCycle := ⟨o.t0, o.polarity, o.estimate⟩ }
  if half = 0 then ({ q1 with currentWindow := none, beaconCount := q1.beaconCount + 1 } : Csq).counted else q1

/-- The state in which an origin's starts are armed (R46 steps 1 to 4). -/
def State.playedHalf (s : State) (f : Feed) (half : Nat) (o : OriginRecord) (order : BoundaryOrder) : State :=
  let s1 := s.skipUnreached f
  let s2 := s1.setCsq f { s1.csq.get f with halfIndex := half, halfCycle := ⟨o.t0, o.polarity, o.estimate⟩ }
  (if half = 0 then s2.playBoundary f order else s2).offerZone f 0 0

theorem State.playHalf_eq (s : State) (f : Feed) (half : Nat) (o : OriginRecord) (order : BoundaryOrder) :
    s.playHalf f half o order = (s.playedHalf f half o order).armStarts f := rfl

@[simp] theorem State.playedHalf_csq (s : State) (f : Feed) (half : Nat) (o : OriginRecord) (order : BoundaryOrder) :
    (s.playedHalf f half o order).csq = s.csq.set f ((s.csq.get f).played half o) := by
  simp only [State.playedHalf, Csq.played, State.offerZone_frame]
  split <;> simp

@[simp] theorem State.playedHalf_pda (s : State) (f : Feed) (half : Nat) (o : OriginRecord) (order : BoundaryOrder) :
    (s.playedHalf f half o order).pda = s.pda := by
  simp only [State.playedHalf]
  split <;> simp

theorem State.takeOrigin_cases (s : State) (f : Feed) (o : OriginRecord) (order : BoundaryOrder) :
    s.takeOrigin f o order = s ∨
      ((s.csq.get f).state = .running ∧
        s.takeOrigin f o order = s.playHalf f (((s.csq.get f).halfIndex + 1) % (s.csq.get f).beaconLen) o order) ∨
      ((s.csq.get f).state = .waitingSync ∧
        s.takeOrigin f o order = (s.enterSeq f .running).playHalf f 0 o order) := by
  simp only [State.takeOrigin]
  split
  · rename_i h
    exact .inr (.inl ⟨h, rfl⟩)
  · rename_i h
    split
    · exact .inr (.inr ⟨h, rfl⟩)
    · exact .inl rfl
  · exact .inl rfl

/-! ### Mains changes and restarts (R56, R57, R60) -/

@[simp] theorem State.seqTakesChange_csq (s : State) (f : Feed) (new : MainsState) :
    (s.seqTakesChange f new).csq = s.csq.set f ((s.csq.get f).afterMains new) := by
  cases hstate : (s.csq.get f).state with
  | running => cases new <;> simp [State.seqTakesChange, Csq.afterMains, hstate]
  | held => cases new <;> simp [State.seqTakesChange, Csq.afterMains, hstate]
  | stopped | waitingSync => simp [State.seqTakesChange, Csq.afterMains, hstate]

@[simp] theorem State.handMains_csq (s : State) (f : Feed) (old new : MainsState) (order : ChangeOrder) :
    (s.handMains f old new order).csq =
      if new = old then s.csq else s.csq.set f ((s.csq.get f).afterMains new) := by
  unfold State.handMains
  split
  · rfl
  · cases order <;> simp

@[simp] theorem State.mainsBecomes_csq (s : State) (f : Feed) (m : Mtu) (order : ChangeOrder) :
    (s.mainsBecomes f m order).csq =
      if m.state = (s.mtu.get f).state then s.csq else s.csq.set f ((s.csq.get f).afterMains m.state) := by
  simp [State.mainsBecomes]

@[simp] theorem State.restartSeq_csq (s : State) (f : Feed) :
    (s.restartSeq f).csq = s.csq.set f { s.csq.get f with
      currentWindow := none
      armed := []
      halfIndex := 0
      heldClaim := none
      pendingState := .edit
      state := .stopped
      beaconCount := 0 } := by
  simp [State.restartSeq]

end Sys2Proof.Machine
end

section
/-! Chapter 4, the Panel Driver Arbiter: what each operation makes of the PDA, and what a step keeps of it (R63, R64,
R51). -/
namespace Sys2Proof.Machine

/-! ### The PDA after each operation -/

/-- Service at FREE: enabled where the relays are, a switch otherwise (R66). -/
def Pda.serve (p : Pda) (f : Feed) (c : ClaimRecord) (now : Nat) : Pda :=
  if p.connected = some f then p.enable f c else p.switchTo f c now

/-- A claim joined to the waiting list (R67, R73). -/
def Pda.wait (p : Pda) (f : Feed) (c : ClaimRecord) : Pda :=
  { p with waiting := p.joinList f c.cls, claims := p.claims.set f (some { c with status := .waiting }) }

/-- The head of the waiting list, with its claim. -/
def Pda.headClaim (p : Pda) : Option (Feed × ClaimRecord) :=
  p.waiting.head?.bind fun g => (p.claims.get g).map (Prod.mk g)

/-- Service of the head of the waiting list at FREE (R71). -/
def Pda.serveHead (p : Pda) (now : Nat) : Pda :=
  match p.headClaim with
  | some (g, c) => (p.leaveList g).serve g c now
  | none => p

/-- Preemption of a holder (R68). -/
def Pda.preempted (p : Pda) (h : Holder) (f : Feed) (c : ClaimRecord) (now : Nat) : Pda :=
  (p.setClaim h.feed none).switchTo f c now

/-- The head of the waiting list judged against the holder (R68). -/
def Pda.judged (p : Pda) (now : Nat) : Pda :=
  match p.headClaim, p.holder with
  | some (g, c), some h => if preempts c.cls h.cls then (p.leaveList g).preempted h g c now else p
  | _, _ => p

/-- The arrival of a claim (R66 to R68, R72). -/
def Pda.arrive (p : Pda) (f : Feed) (c : ClaimRecord) (now : Nat) : Pda :=
  match p.driver with
  | .free => p.serve f c now
  | .switching => if p.connected = some f then p.setClaim f (some { c with status := .target }) else p.wait f c
  | .enabled =>
      match p.holder with
      | some h => if preempts c.cls h.cls then p.preempted h f c now else p.wait f c
      | none => p.wait f c

/-- A release or withdrawal (R71, R72). -/
def Pda.release (p : Pda) (f : Feed) (now : Nat) : Pda :=
  match p.claims.get f with
  | none => p
  | some c =>
      match c.status with
      | .holding => (p.freeDriver.setClaim f none).serveHead now
      | .waiting => (p.leaveList f).setClaim f none
      | .target => p.setClaim f none

/-- A replacement (R70). -/
def Pda.replace (p : Pda) (f : Feed) (cls : DriverClass) (w : SlotNo) (start now : Nat) : Pda :=
  match p.claims.get f with
  | none => p.arrive f ⟨cls, w, start, .waiting⟩ now
  | some c =>
      match c.status with
      | .holding =>
          ({ p with holder := some ⟨f, cls⟩, claims := p.claims.set f (some ⟨cls, w, start, .holding⟩) } : Pda).judged now
      | .target => p.setClaim f (some ⟨cls, w, start, .target⟩)
      | .waiting => ((p.leaveList f).setClaim f none).arrive f ⟨cls, w, start, .waiting⟩ now

/-- The end of a switch (R69). -/
def Pda.switched (p : Pda) (now : Nat) : Pda :=
  match p.connected.bind fun f => (p.claims.get f).map (Prod.mk f) with
  | some (f, c) => (p.enable f c).judged now
  | none => p.freeDriver.serveHead now

@[simp] theorem State.grantDriver_pda (s : State) (f : Feed) (c : ClaimRecord) :
    (s.grantDriver f c).pda = s.pda.enable f c := by simp [State.grantDriver]

@[simp] theorem State.serveAtFree_pda (s : State) (f : Feed) (c : ClaimRecord) :
    (s.serveAtFree f c).pda = s.pda.serve f c s.now := by
  unfold State.serveAtFree Pda.serve
  split <;> simp

@[simp] theorem State.waitForDriver_pda (s : State) (f : Feed) (c : ClaimRecord) :
    (s.waitForDriver f c).pda = s.pda.wait f c := by
  simp only [State.waitForDriver]
  split <;> simp [Pda.wait]

theorem Pda.setClaim_of_none {p : Pda} {f : Feed} (h : p.claims.get f = none) : p.setClaim f none = p := by
  rw [Pda.setClaim, PerFeed.set_of_get_eq h]

@[simp] theorem State.preempt_pda (s : State) (h : Holder) (f : Feed) (c : ClaimRecord) :
    (s.preempt h f c).pda = s.pda.preempted h f c s.now := by
  simp only [State.preempt, State.setPda_pda, Pda.preempted]
  split
  · simp
  · rename_i hn
    rw [Pda.setClaim_of_none hn]

@[simp] theorem State.claimArrives_pda (s : State) (f : Feed) (c : ClaimRecord) :
    (s.claimArrives f c).pda = s.pda.arrive f c s.now := by
  unfold State.claimArrives Pda.arrive
  cases hd : s.pda.driver with
  | free => simp
  | switching => dsimp only; split <;> simp
  | enabled =>
    cases hh : s.pda.holder with
    | none => simp
    | some h => dsimp only; split <;> simp

@[simp] theorem State.judgeHead_pda (s : State) : s.judgeHead.pda = s.pda.judged s.now := by
  unfold State.judgeHead Pda.judged Pda.headClaim
  split
  · rename_i g rest h hw hh
    simp only [hw, hh, List.head?_cons, Option.bind_some]
    split
    · rename_i c hc
      simp only [hc, Option.map_some]
      split <;> simp
    · rename_i hc
      simp [hc]
  · rename_i hno
    cases hw : s.pda.waiting with
    | nil => rfl
    | cons g rest =>
      cases hh : s.pda.holder with
      | none => split <;> simp_all
      | some h => exact absurd hh (hno g rest h hw)

@[simp] theorem State.serveList_pda (s : State) : s.serveList.pda = s.pda.serveHead s.now := by
  unfold State.serveList Pda.serveHead Pda.headClaim
  cases hw : s.pda.waiting with
  | nil => rfl
  | cons g rest =>
    cases hc : s.pda.claims.get g <;> simp [hc]

@[simp] theorem State.releaseDriver_pda (s : State) (f : Feed) :
    (s.releaseDriver f).pda = s.pda.release f s.now := by
  unfold State.releaseDriver Pda.release
  cases hc : s.pda.claims.get f with
  | none => rfl
  | some c => cases hst : c.status <;> simp [hst]

@[simp] theorem State.replaceClaim_pda (s : State) (f : Feed) (cls : DriverClass) (w : SlotNo) (start : Nat) :
    (s.replaceClaim f cls w start).pda = s.pda.replace f cls w start s.now := by
  unfold State.replaceClaim Pda.replace
  cases hc : s.pda.claims.get f with
  | none => simp
  | some c => cases hst : c.status <;> simp [hst]

@[simp] theorem State.endSwitch_pda (s : State) : s.endSwitch.pda = s.pda.switched s.now := by
  unfold State.endSwitch Pda.switched
  cases s.pda.connected.bind fun f => (s.pda.claims.get f).map (Prod.mk f) <;> simp

/-- What a window start hands the PDA, by the class held before (R51). -/
def Pda.handed (p : Pda) (held : Option DriverClass) (f : Feed) (cls : ClaimClass) (i : SlotNo) (now : Nat) : Pda :=
  match cls, held with
  | some c, none => p.arrive f ⟨c, i, now, .waiting⟩ now
  | some c, some _ => p.replace f c i now now
  | none, some _ => p.release f now
  | none, none => p

@[simp] theorem State.handClaim_pda (s : State) (f : Feed) (cls : ClaimClass) (i : SlotNo) :
    (s.handClaim f cls i).pda = s.pda.handed (s.csq.get f).heldClaim f cls i s.now := by
  cases cls <;> cases hh : (s.csq.get f).heldClaim <;> simp [State.handClaim, Pda.handed, hh]

@[simp] theorem State.startWindow_pda (s : State) (f : Feed) (i : SlotNo) :
    (s.startWindow f i).pda =
      s.pda.handed (s.csq.get f).heldClaim f (s.claimClass f ((s.csq.get f).currentBank.slot i)) i s.now := by
  simp only [State.startWindow, State.handClaim_pda, State.offerWindow_frame, State.setCsq_csq, State.setCsq_pda,
    State.setCsq_now, PerFeed.get_set_self]
  rfl

/-- A withdrawal at the PDA of a claim that is held (R51). -/
def Pda.withdrawn (p : Pda) (held : Option DriverClass) (f : Feed) (now : Nat) : Pda :=
  match held with
  | some _ => p.release f now
  | none => p

@[simp] theorem State.withdraw_pda (s : State) (f : Feed) :
    (s.withdraw f).pda = s.pda.withdrawn (s.csq.get f).heldClaim f s.now := by
  cases hh : (s.csq.get f).heldClaim <;> simp [State.withdraw, Pda.withdrawn, hh]

@[simp] theorem State.endPlayback_pda (s : State) (f : Feed) :
    (s.endPlayback f).pda = s.pda.withdrawn (s.csq.get f).heldClaim f s.now := by
  simp [State.endPlayback]

@[simp] theorem State.restartSeq_pda (s : State) (f : Feed) :
    (s.restartSeq f).pda = s.pda.withdrawn (s.csq.get f).heldClaim f s.now := by
  simp [State.restartSeq]

theorem State.seqTakesChange_pda (s : State) (f : Feed) (new : MainsState) :
    (s.seqTakesChange f new).pda = s.pda ∨
      ((s.csq.get f).state = .running ∧ (new = .absent ∨ new = .acquiring)) ∧
        (s.seqTakesChange f new).pda = s.pda.withdrawn (s.csq.get f).heldClaim f s.now := by
  unfold State.seqTakesChange
  split
  · rename_i h
    exact .inr ⟨⟨h, .inl rfl⟩, by simp⟩
  · rename_i h
    exact .inr ⟨⟨h, .inr rfl⟩, by simp⟩
  · exact .inl (by simp)
  · exact .inl rfl

theorem State.armStarts_pda (s : State) (f : Feed) :
    (s.armStarts f).pda = s.pda ∨
      ∃ cls i, (s.armStarts f).pda = s.pda.handed (s.csq.get f).heldClaim f cls i s.now := by
  simp only [State.armStarts]
  split
  · split
    · simp only [State.startWindow_pda, State.setCsq_csq, State.setCsq_pda, State.setCsq_now, PerFeed.get_set_self]
      exact .inr ⟨_, _, rfl⟩
    · exact .inl rfl
  · exact .inl rfl

/-! ### DRV_SEL (R64) -/

/-- The relays have not moved, or DRV_EN is low. -/
def Pda.Turned (p q : Pda) : Prop := q.connected = p.connected ∨ q.driver ≠ .enabled

namespace Pda

theorem Turned.rfl' (p : Pda) : p.Turned p := .inl rfl

theorem serve_turned (p : Pda) (f : Feed) (c : ClaimRecord) (now : Nat) : p.Turned (p.serve f c now) := by
  unfold serve
  split
  · exact .inl rfl
  · exact .inr (by simp [switchTo])

theorem preempted_turned (p : Pda) (h : Holder) (f : Feed) (c : ClaimRecord) (now : Nat) :
    p.Turned (p.preempted h f c now) := .inr (by simp [preempted, switchTo])

theorem serveHead_turned (p : Pda) (now : Nat) : p.Turned (p.serveHead now) := by
  unfold serveHead
  split
  · exact serve_turned (p.leaveList _) _ _ now
  · exact .inl rfl

theorem judged_turned (p : Pda) (now : Nat) : p.Turned (p.judged now) := by
  unfold judged
  split
  · split
    · exact preempted_turned (p.leaveList _) _ _ _ now
    · exact .inl rfl
  · exact .inl rfl

theorem arrive_turned (p : Pda) (f : Feed) (c : ClaimRecord) (now : Nat) : p.Turned (p.arrive f c now) := by
  unfold arrive
  split
  · exact p.serve_turned f c now
  · split <;> exact .inl rfl
  · split
    · split
      · exact p.preempted_turned _ f c now
      · exact .inl rfl
    · exact .inl rfl

theorem release_turned (p : Pda) (f : Feed) (now : Nat) : p.Turned (p.release f now) := by
  unfold release
  split
  · exact .inl rfl
  · split
    · exact serveHead_turned (p.freeDriver.setClaim f none) now
    · exact .inl rfl
    · exact .inl rfl

theorem replace_turned (p : Pda) (f : Feed) (cls : DriverClass) (w : SlotNo) (start now : Nat) :
    p.Turned (p.replace f cls w start now) := by
  unfold replace
  split
  · exact p.arrive_turned ..
  · split
    · exact judged_turned { p with holder := some ⟨f, cls⟩, claims := _ } now
    · exact .inl rfl
    · exact arrive_turned ((p.leaveList f).setClaim f none) ..

theorem switched_turned (p : Pda) (now : Nat) : p.Turned (p.switched now) := by
  unfold switched
  split
  · exact judged_turned (p.enable _ _) now
  · exact serveHead_turned p.freeDriver now

theorem handed_turned (p : Pda) (held : Option DriverClass) (f : Feed) (cls : ClaimClass) (i : SlotNo) (now : Nat) :
    p.Turned (p.handed held f cls i now) := by
  unfold handed
  split
  · exact p.arrive_turned ..
  · exact p.replace_turned ..
  · exact p.release_turned ..
  · exact .inl rfl

theorem withdrawn_turned (p : Pda) (held : Option DriverClass) (f : Feed) (now : Nat) :
    p.Turned (p.withdrawn held f now) := by
  unfold withdrawn
  split
  · exact p.release_turned f now
  · exact .inl rfl

theorem Turned.congr {p q r : Pda} (h : p.Turned q) (hr : r = q) : p.Turned r := hr ▸ h

end Pda

theorem State.turned_of_eq {s t : State} (h : t.pda = s.pda) : s.pda.Turned t.pda := .inl (by rw [h])

theorem State.handMains_turned (s : State) (f : Feed) (old new : MainsState) (order : ChangeOrder) :
    s.pda.Turned (s.handMains f old new order).pda := by
  have takes (u : State) : u.pda.Turned (u.seqTakesChange f new).pda := by
    obtain h | ⟨-, h⟩ := u.seqTakesChange_pda f new
    · exact State.turned_of_eq h
    · exact (Pda.withdrawn_turned ..).congr h
  unfold State.handMains
  split
  · exact .inl rfl
  · cases order with
    | sequencerFirst => exact (takes s).congr (by simp)
    | noticeFirst => simpa using takes (s.offerFeedState f)

theorem State.playHalf_turned (s : State) (f : Feed) (half : Nat) (o : OriginRecord) (order : BoundaryOrder) :
    s.pda.Turned (s.playHalf f half o order).pda := by
  rw [State.playHalf_eq]
  obtain h | ⟨cls, i, h⟩ := (s.playedHalf f half o order).armStarts_pda f
  · exact State.turned_of_eq (by simp [h])
  · rw [h, State.playedHalf_pda]
    exact Pda.handed_turned ..

theorem State.takeOrigin_turned (s : State) (f : Feed) (o : OriginRecord) (order : BoundaryOrder) :
    s.pda.Turned (s.takeOrigin f o order).pda := by
  obtain h | ⟨-, h⟩ | ⟨-, h⟩ := s.takeOrigin_cases f o order <;> rw [h]
  · exact .inl rfl
  · exact s.playHalf_turned ..
  · simpa using (s.enterSeq f .running).playHalf_turned f 0 o order

theorem State.OwnerEffect.turned {s t : State} (h : s.OwnerEffect t) : s.pda.Turned t.pda := by
  cases h with
  | notched f m => exact State.turned_of_eq (State.forEach_pda _ _ (by simp) _)
  | stopped f | restarted f => exact (s.pda.withdrawn_turned (s.csq.get f).heldClaim f s.now).congr (by simp)
  | activated f n => exact State.turned_of_eq (by simp only [State.activate]; split <;> simp)
  | _ => exact State.turned_of_eq (by simp)

theorem State.FrameEffect.pda_eq {s t : State} {f : Feed} (h : s.FrameEffect f t) : t.pda = s.pda := by
  cases h <;> simp [State.reportIdled]

theorem State.Received.pda_eq {s u : State} {f : Feed} (h : s.Received u f) : u.pda = s.pda := by
  obtain ⟨_, _, _, _, _, rfl⟩ := h
  rfl

theorem State.Effect.turned {s t : State} (h : s.Effect t) : s.pda.Turned t.pda := by
  cases h with
  | port t h =>
    cases h with
    | words m => exact .inl rfl
    | managed m n u hm hu hn => exact hu.turned
  | mains f m order hm => exact State.handMains_turned (s.setMtu f m) f _ _ order
  | origin f order o => exact (s.setMtu f ((s.mtu.get f).originReached o)).takeOrigin_turned ..
  | windowStart f i =>
    rw [State.startWindow_pda]
    exact Pda.handed_turned ..
  | switchEnd h => exact (s.pda.switched_turned s.now).congr (by simp)
  | received f u h => exact State.turned_of_eq h.pda_eq
  | frame f u t h hslot ht => exact State.turned_of_eq (ht.pda_eq.trans h.pda_eq)
  | folded b u hb hu => obtain rfl | ⟨r, -, rfl⟩ := hu <;> exact State.turned_of_eq (by simp)
  | _ => exact State.turned_of_eq (by simp)

/-- Settles O7: each operation of the PDA leaves the relays where they are, or the driver SWITCHING; and at reset the
driver is FREE. -/
theorem driverSelectChangesOnlyWhileDisabled : Obligations.DriverSelectChangesOnlyWhileDisabled := by
  intro s t h hsel
  have turned : s.pda.Turned t.pda := by
    obtain ⟨p, n, rfl⟩ | rfl | ⟨p, n, he⟩ := step_cases h
    · exact .inr (by simp [State.reset, Pda.reset])
    · exact .inl rfl
    · exact he.turned
  obtain hc | hd := turned
  · exact absurd (by simp only [Pda.drvSel, hc]) hsel
  · simpa [Pda.drvEn] using hd

end Sys2Proof.Machine
end

section
/-! Chapter 4, what a step keeps of the PDA: the holder, the claims, the waiting list and the sequencers in agreement
(R51, R63). -/
namespace Sys2Proof.Machine

namespace Pda

/-! ### Claim statuses -/

theorem statusOf_setClaim (p : Pda) (f g : Feed) (c : Option ClaimRecord) :
    (p.setClaim f c).statusOf g = if g = f then c.map (·.status) else p.statusOf g := by
  unfold statusOf setClaim
  rw [PerFeed.get_set]
  split <;> rfl

theorem statusOf_eq_none {p : Pda} {f : Feed} : p.statusOf f = none ↔ p.claims.get f = none := by
  simp [statusOf]

theorem statusOf_of_claim {p : Pda} {f : Feed} {c : ClaimRecord} (h : p.claims.get f = some c) :
    p.statusOf f = some c.status := by simp [statusOf, h]

theorem mem_leaveList {p : Pda} {f g : Feed} : g ∈ (p.leaveList f).waiting ↔ g ∈ p.waiting ∧ g ≠ f := by
  simp [leaveList]

/-- A claim joins the list once, among the claims that wait there. -/
theorem joinList_perm (p : Pda) (f : Feed) (cls : DriverClass) : (p.joinList f cls).Perm (f :: p.waiting) := by
  unfold joinList
  exact (List.perm_middle).trans (by rw [List.takeWhile_append_dropWhile])

/-! ### A PDA with no claim at the driver -/

/-- The driver is FREE or is about to be served, and every claim waits on the list, none of them of the connected
feed: what a release leaves behind before the list is served (R71). -/
structure Vacant (p : Pda) : Prop where
  driver : p.driver = .free
  holder : p.holder = none
  switchAt : p.switchAt = none
  waits : ∀ f c, p.claims.get f = some c → c.status = .waiting
  list : ∀ f, p.statusOf f = some .waiting ↔ f ∈ p.waiting
  nodup : p.waiting.Nodup
  away : ∀ f ∈ p.waiting, p.connected ≠ some f

theorem Vacant.status {p : Pda} (h : p.Vacant) {f : Feed} {st : ClaimStatus} (hst : p.statusOf f = some st) :
    st = .waiting := by
  simp only [statusOf, Option.map_eq_some_iff] at hst
  obtain ⟨c, hc, rfl⟩ := hst
  exact h.waits f c hc

theorem Vacant.sound {p : Pda} (h : p.Vacant) (hw : p.waiting = []) : p.Sound := by
  refine ⟨by simp [h.holder, h.driver], by simp [h.switchAt, h.driver], by simp [h.holder], fun f hf => ?_,
    fun f hf => ?_, h.list, h.nodup, fun _ => hw, by simp [h.driver]⟩
  · cases h.status hf
  · cases h.status hf

/-- A PDA in FREE is vacant: no claim can have another status there. -/
theorem Sound.vacant {p : Pda} (h : p.Sound) (hd : p.driver = .free) : p.Vacant := by
  obtain ⟨hholder, hswitch, -, hholding, htarget, hlist, hnodup, hfree, -⟩ := h
  have hno : p.holder = none := by simpa [hd] using hholder
  refine ⟨hd, hno, by simpa [hd] using hswitch, fun f c hc => ?_, hlist, hnodup, by simp [hfree hd]⟩
  have hst := statusOf_of_claim hc
  cases hs : c.status with
  | waiting => rfl
  | holding => simpa [hno] using hholding f (hs ▸ hst)
  | target => simpa [hd] using htarget f (hs ▸ hst)

/-- A switch begun for f leaves the others waiting (R66, R68). -/
theorem Vacant.switchTo {p : Pda} {f : Feed} (h : (p.setClaim f none).Vacant) (c : ClaimRecord) (now : Nat) :
    (p.switchTo f c now).Sound := by
  have hstatus : ∀ g, (p.switchTo f c now).statusOf g = if g = f then some .target else (p.setClaim f none).statusOf g :=
    fun g => by
      simp only [Pda.switchTo, statusOf, setClaim, PerFeed.get_set]
      split <;> rfl
  have haway : f ∉ p.waiting := fun hf => by
    have := (h.list f).mpr hf
    rw [statusOf_setClaim, if_pos rfl] at this
    cases this
  refine ⟨by simp [Pda.switchTo], by simp [Pda.switchTo], by simp [Pda.switchTo], fun g hg => ?_, fun g hg => ?_,
    fun g => ?_, h.nodup, by simp [Pda.switchTo], fun _ => ⟨rfl, fun g hg => ?_⟩⟩
  · rw [hstatus] at hg
    split at hg
    · cases hg
    · cases h.status hg
  · rw [hstatus] at hg
    split at hg
    · rename_i hgf
      exact ⟨rfl, by rw [hgf]; rfl⟩
    · cases h.status hg
  · rw [hstatus]
    split
    · rename_i hgf
      subst hgf
      exact iff_of_false (by simp) haway
    · exact h.list g
  · show some f ≠ some g
    rintro ⟨rfl⟩
    exact haway hg

/-- A claim of the connected feed served at FREE, with nothing waiting (R66). -/
theorem Vacant.enable {p : Pda} {f : Feed} (h : (p.setClaim f none).Vacant) (hc : p.connected = some f)
    (c : ClaimRecord) : (p.enable f c).Sound := by
  have hstatus : ∀ g, (p.enable f c).statusOf g = if g = f then some .holding else (p.setClaim f none).statusOf g :=
    fun g => by
      simp only [Pda.enable, statusOf, setClaim, PerFeed.get_set]
      split <;> rfl
  refine ⟨by simp [Pda.enable], by simp [Pda.enable], fun x hx => ?_, fun g hg => ?_, fun g hg => ?_,
    fun g => ?_, h.nodup, by simp [Pda.enable], by simp [Pda.enable]⟩
  · cases hx
    exact ⟨hc, _, PerFeed.get_set_self .., rfl, rfl⟩
  · rw [hstatus] at hg
    split at hg
    · rename_i hgf
      exact ⟨_, rfl, hgf.symm⟩
    · cases h.status hg
  · rw [hstatus] at hg
    split at hg
    · cases hg
    · cases h.status hg
  · rw [hstatus]
    split
    · rename_i hgf
      subst hgf
      exact iff_of_false (by simp) fun hf => h.away _ hf hc
    · exact h.list g

theorem serve_sound {p : Pda} {f : Feed} (h : (p.setClaim f none).Vacant) (c : ClaimRecord) (now : Nat) :
    (p.serve f c now).Sound := by
  unfold serve
  split
  · rename_i hc
    exact h.enable hc c
  · exact h.switchTo c now

/-- The list with a feed taken off, and its claim. -/
theorem Vacant.leave {p : Pda} (h : p.Vacant) (f : Feed) : ((p.leaveList f).setClaim f none).Vacant := by
  have hstatus : ∀ g, ((p.leaveList f).setClaim f none).statusOf g = if g = f then none else p.statusOf g :=
    fun g => by rw [statusOf_setClaim]; rfl
  refine ⟨h.driver, h.holder, h.switchAt, fun g c hc => ?_, fun g => ?_, h.nodup.filter _, fun g hg => ?_⟩
  · have := statusOf_of_claim hc
    rw [hstatus] at this
    split at this
    · cases this
    · exact h.status this
  · rw [hstatus]
    show _ ↔ g ∈ (p.leaveList f).waiting
    rw [mem_leaveList, ← h.list]
    split <;> simp_all
  · exact h.away g (mem_leaveList.mp hg).1

/-- Every feed on the list has its claim, so the head has one. -/
theorem Vacant.headClaim {p : Pda} (h : p.Vacant) (hnone : p.headClaim = none) : p.waiting = [] := by
  cases hw : p.waiting with
  | nil => rfl
  | cons g rest =>
    have hst : p.statusOf g = some .waiting := (h.list g).mpr (by simp [hw])
    simp only [statusOf, Option.map_eq_some_iff] at hst
    obtain ⟨c, hc, -⟩ := hst
    simp [Pda.headClaim, hw, hc] at hnone

theorem serveHead_sound {p : Pda} (h : p.Vacant) (now : Nat) : (p.serveHead now).Sound := by
  unfold serveHead
  split
  · exact serve_sound (h.leave _) _ now
  · rename_i hnone
    exact h.sound (h.headClaim hnone)

/-! ### A PDA that is sound -/

variable {p : Pda}

/-- The claim of the holder. -/
theorem Sound.holder_claim (h : p.Sound) {x : Holder} (hx : p.holder = some x) :
    p.driver = .enabled ∧ p.connected = some x.feed ∧ ∃ c, p.claims.get x.feed = some c ∧ c.status = .holding := by
  obtain ⟨hholder, -, hheld, -⟩ := h
  obtain ⟨hc, c, hclaim, -, hst⟩ := hheld x hx
  exact ⟨hholder.mp (by simp [hx]), hc, c, hclaim, hst⟩

/-- A claim in ENABLED holds the driver or waits for it. -/
theorem Sound.vacant_but_holder (h : p.Sound) {x : Holder} (hx : p.holder = some x) :
    (p.freeDriver.setClaim x.feed none).Vacant := by
  obtain ⟨hd, hconn, cx, hcx, hstx⟩ := h.holder_claim hx
  obtain ⟨-, -, -, hholding, htarget, hlist, hnodup, -, -⟩ := h
  have hstatus : ∀ g, (p.freeDriver.setClaim x.feed none).statusOf g = if g = x.feed then none else p.statusOf g :=
    fun g => by rw [statusOf_setClaim]; rfl
  have haway : x.feed ∉ p.waiting := fun hf => by
    have := (hlist x.feed).mpr hf
    rw [statusOf_of_claim hcx, hstx] at this
    cases this
  refine ⟨rfl, rfl, rfl, fun g c hc => ?_, fun g => ?_, hnodup, fun g hg => ?_⟩
  · have hst := statusOf_of_claim hc
    rw [hstatus] at hst
    split at hst
    · cases hst
    · rename_i hne
      cases hs : c.status with
      | waiting => rfl
      | holding =>
        obtain ⟨y, hy, rfl⟩ := hholding g (hs ▸ hst)
        cases hx.symm.trans hy
        exact absurd rfl hne
      | target => simpa [hd] using htarget g (hs ▸ hst)
  · rw [hstatus]
    split
    · rename_i hgf
      subst hgf
      exact iff_of_false (by simp) haway
    · exact hlist g
  · show p.connected ≠ some g
    rw [hconn]
    rintro ⟨rfl⟩
    exact haway hg

/-- What the driver held before a switch begins does not matter to the switch. -/
theorem switchTo_congr {p q : Pda} {f : Feed} (hclaims : q.claims.set f none = p.claims.set f none)
    (hw : q.waiting = p.waiting) (c : ClaimRecord) (now : Nat) : q.switchTo f c now = p.switchTo f c now := by
  have hset : ∀ x, q.claims.set f x = p.claims.set f x := fun x => by
    rw [← PerFeed.set_set q.claims f none x, hclaims, PerFeed.set_set]
  simp [Pda.switchTo, hset, hw]

/-- A preemption by a feed that has no claim but this one (R68). -/
theorem preempted_sound {f : Feed} (h : (p.setClaim f none).Sound) {x : Holder} (hx : p.holder = some x)
    (c : ClaimRecord) (now : Nat) : (p.preempted x f c now).Sound := by
  have hvac := h.vacant_but_holder (x := x) hx
  have heq : p.preempted x f c now = ((p.setClaim f none).freeDriver.setClaim x.feed none).switchTo f c now := by
    show (p.setClaim x.feed none).switchTo f c now = _
    refine switchTo_congr ?_ (by rfl) c now
    show (p.claims.set x.feed none).set f none = ((p.claims.set f none).set x.feed none).set f none
    cases f <;> cases x.feed <;> rfl
  rw [heq]
  have hself : (((p.setClaim f none).freeDriver.setClaim x.feed none).setClaim f none) =
      ((p.setClaim f none).freeDriver.setClaim x.feed none) :=
    setClaim_of_none (by
      simp only [setClaim, freeDriver, PerFeed.get_set]
      split
      · rfl
      · simp)
  exact Vacant.switchTo (hself.symm ▸ hvac) c now

/-- A waiting claim withdrawn (R72). -/
theorem Sound.leave (h : p.Sound) {f : Feed} (hf : p.statusOf f = some .waiting) :
    ((p.leaveList f).setClaim f none).Sound := by
  obtain ⟨hholder, hswitch, hheld, hholding, htarget, hlist, hnodup, hfree, hsw⟩ := h
  have hstatus : ∀ g, ((p.leaveList f).setClaim f none).statusOf g = if g = f then none else p.statusOf g :=
    fun g => by rw [statusOf_setClaim]; rfl
  refine ⟨hholder, hswitch, fun x hx => ?_, fun g hg => ?_, fun g hg => ?_, fun g => ?_, hnodup.filter _,
    fun hd => ?_, fun hd => ?_⟩
  · obtain ⟨hc, c, hclaim, hcls, hst⟩ := hheld x hx
    refine ⟨hc, c, ?_, hcls, hst⟩
    have hne : x.feed ≠ f := by
      rintro rfl
      rw [statusOf_of_claim hclaim, hst] at hf
      cases hf
    exact (PerFeed.get_set_of_ne _ hne _).trans hclaim
  · rw [hstatus] at hg
    split at hg
    · cases hg
    · exact hholding g hg
  · rw [hstatus] at hg
    split at hg
    · cases hg
    · exact htarget g hg
  · rw [hstatus]
    show _ ↔ g ∈ (p.leaveList f).waiting
    rw [mem_leaveList, ← hlist]
    split <;> simp_all
  · show (p.leaveList f).waiting = []
    simp [leaveList, hfree hd]
  · obtain ⟨hc, haway⟩ := hsw hd
    exact ⟨hc, fun g hg => haway g (mem_leaveList.mp hg).1⟩

/-- A claim joined to the list of a driver that is not FREE, and not SWITCHING towards its feed (R67). -/
theorem Sound.wait (h : p.Sound) {f : Feed} (hf : p.claims.get f = none) (hd : p.driver ≠ .free)
    (hsw : p.driver = .switching → p.connected ≠ some f) (c : ClaimRecord) : (p.wait f c).Sound := by
  obtain ⟨hholder, hswitch, hheld, hholding, htarget, hlist, hnodup, -, hs⟩ := h
  have hperm := p.joinList_perm f c.cls
  have hmem : ∀ g, g ∈ (p.wait f c).waiting ↔ g = f ∨ g ∈ p.waiting := fun g => by
    show g ∈ p.joinList f c.cls ↔ _
    rw [hperm.mem_iff, List.mem_cons]
  have hstatus : ∀ g, (p.wait f c).statusOf g = if g = f then some .waiting else p.statusOf g := fun g => by
    simp only [Pda.wait, statusOf, PerFeed.get_set]
    split <;> rfl
  have hout : f ∉ p.waiting := fun hin => by
    have := (hlist f).mpr hin
    rw [statusOf_eq_none.mpr hf] at this
    cases this
  refine ⟨hholder, hswitch, fun x hx => ?_, fun g hg => ?_, fun g hg => ?_, fun g => ?_,
    hperm.nodup_iff.mpr (List.nodup_cons.mpr ⟨hout, hnodup⟩), fun hfree => absurd hfree hd, fun hdr => ?_⟩
  · obtain ⟨hc, cx, hclaim, hcls, hst⟩ := hheld x hx
    have hne : x.feed ≠ f := by
      rintro rfl
      cases hf.symm.trans hclaim
    exact ⟨hc, cx, (PerFeed.get_set_of_ne _ hne _).trans hclaim, hcls, hst⟩
  · rw [hstatus] at hg
    split at hg
    · cases hg
    · exact hholding g hg
  · rw [hstatus] at hg
    split at hg
    · cases hg
    · exact htarget g hg
  · rw [hstatus, hmem]
    split <;> simp_all
  · obtain ⟨hc, haway⟩ := hs hdr
    refine ⟨hc, fun g hg => ?_⟩
    obtain rfl | hg := (hmem g).mp hg
    · exact hsw hdr
    · exact haway g hg

/-- The target of a switch set anew, or withdrawn (R70, R72). -/
theorem Sound.retarget (h : p.Sound) {f : Feed} (hd : p.driver = .switching) (hc : p.connected = some f)
    {c : Option ClaimRecord} (hst : ∀ x, c = some x → x.status = .target) : (p.setClaim f c).Sound := by
  obtain ⟨hholder, hswitch, -, hholding, htarget, hlist, hnodup, hfree, hs⟩ := h
  have hno : p.holder = none := by simpa [hd] using hholder
  have hout : f ∉ p.waiting := fun hin => (hs hd).2 f hin hc
  have hnew : ∀ st, c.map (·.status) = some st → st = .target := fun st h => by
    obtain ⟨x, hx, rfl⟩ := Option.map_eq_some_iff.mp h
    exact hst x hx
  refine ⟨hholder, hswitch, fun x hx => ?_, fun g hg => ?_, fun g hg => ?_, fun g => ?_, hnodup, hfree, hs⟩
  · cases hno.symm.trans hx
  · rw [statusOf_setClaim] at hg
    split at hg
    · cases hnew _ hg
    · exact hholding g hg
  · rw [statusOf_setClaim] at hg
    split at hg
    · rename_i hgf
      exact ⟨hd, by rw [hgf]; exact hc⟩
    · exact htarget g hg
  · rw [statusOf_setClaim]
    split
    · rename_i hgf
      subst hgf
      exact iff_of_false (fun hw => nomatch hnew _ hw) hout
    · exact hlist g

theorem Sound.arrive (h : p.Sound) {f : Feed} (hf : p.claims.get f = none) (c : ClaimRecord) (now : Nat) :
    (p.arrive f c now).Sound := by
  have hself : p.setClaim f none = p := setClaim_of_none hf
  unfold Pda.arrive
  split
  · rename_i hd
    exact serve_sound (hself.symm ▸ h.vacant hd) c now
  · rename_i hd
    split
    · rename_i hc
      exact h.retarget hd hc (by rintro _ ⟨rfl⟩; rfl)
    · rename_i hc
      exact h.wait hf (by simp [hd]) (fun _ => hc) c
  · rename_i hd
    split
    · rename_i x hx
      split
      · exact preempted_sound (hself.symm ▸ h) hx c now
      · exact h.wait hf (by simp [hd]) (by simp [hd]) c
    · exact h.wait hf (by simp [hd]) (by simp [hd]) c

theorem Sound.headClaim_waiting (h : p.Sound) {g : Feed} {c : ClaimRecord} (hg : p.headClaim = some (g, c)) :
    p.statusOf g = some .waiting := by
  obtain ⟨-, -, -, -, -, hlist, -⟩ := h
  simp only [headClaim, Option.bind_eq_some_iff, Option.map_eq_some_iff, Prod.mk.injEq] at hg
  obtain ⟨g', hhead, c', -, rfl, -⟩ := hg
  exact (hlist g').mpr (List.mem_of_mem_head? hhead)

theorem Sound.judged (h : p.Sound) (now : Nat) : (p.judged now).Sound := by
  unfold Pda.judged
  split
  · rename_i g c x hg hx
    split
    · exact preempted_sound (h.leave (h.headClaim_waiting hg)) hx c now
    · exact h
  · exact h

theorem Sound.release (h : p.Sound) (f : Feed) (now : Nat) : (p.release f now).Sound := by
  unfold Pda.release
  split
  · exact h
  · rename_i c hc
    have hst := statusOf_of_claim hc
    split
    · rename_i hs
      rw [hs] at hst
      obtain ⟨-, -, -, hholding, -⟩ := id h
      obtain ⟨x, hx, rfl⟩ := hholding f hst
      exact serveHead_sound (h.vacant_but_holder hx) now
    · rename_i hs
      exact h.leave (hs ▸ hst)
    · rename_i hs
      rw [hs] at hst
      obtain ⟨-, -, -, -, htarget, -⟩ := id h
      obtain ⟨hd, hconn⟩ := htarget f hst
      exact h.retarget hd hconn nofun

/-- The class of the claim that holds the driver replaced (R70). -/
theorem Sound.reclass (h : p.Sound) {f : Feed} (hf : p.statusOf f = some .holding) (cls : DriverClass) (w : SlotNo)
    (start : Nat) :
    ({ p with holder := some ⟨f, cls⟩, claims := p.claims.set f (some ⟨cls, w, start, .holding⟩) } : Pda).Sound := by
  obtain ⟨hholder, hswitch, hheld, hholding, htarget, hlist, hnodup, hfree, hs⟩ := h
  obtain ⟨x, hx, hxf⟩ := hholding f hf
  have hd : p.driver = .enabled := hholder.mp (by simp [hx])
  have hstatus : ∀ g, ({ p with
      holder := some ⟨f, cls⟩
      claims := p.claims.set f (some ⟨cls, w, start, .holding⟩) } : Pda).statusOf g =
        if g = f then some .holding else p.statusOf g := fun g => by
    simp only [statusOf, PerFeed.get_set]
    split <;> rfl
  refine ⟨by simp [hd], hswitch, fun y hy => ?_, fun g hg => ?_, fun g hg => ?_, fun g => ?_, hnodup, hfree, hs⟩
  · cases hy
    exact ⟨hxf ▸ (hheld x hx).1, _, PerFeed.get_set_self .., rfl, rfl⟩
  · rw [hstatus] at hg
    split at hg
    · rename_i hgf
      exact ⟨_, rfl, hgf.symm⟩
    · rename_i hne
      obtain ⟨y, hy, hyg⟩ := hholding g hg
      cases hx.symm.trans hy
      exact absurd (hyg.symm.trans hxf) hne
  · rw [hstatus] at hg
    split at hg
    · cases hg
    · exact htarget g hg
  · rw [hstatus]
    split
    · rename_i hgf
      subst hgf
      refine iff_of_false (by simp) fun hin => ?_
      rw [(hlist g).mpr hin] at hf
      cases hf
    · exact hlist g

theorem Sound.replace (h : p.Sound) (f : Feed) (cls : DriverClass) (w : SlotNo) (start now : Nat) :
    (p.replace f cls w start now).Sound := by
  unfold Pda.replace
  split
  · rename_i hf
    exact h.arrive hf _ now
  · rename_i c hc
    have hst := statusOf_of_claim hc
    split
    · rename_i hs
      exact (h.reclass (hs ▸ hst) cls w start).judged now
    · rename_i hs
      rw [hs] at hst
      obtain ⟨-, -, -, -, htarget, -⟩ := id h
      obtain ⟨hd, hconn⟩ := htarget f hst
      exact h.retarget hd hconn (by rintro _ ⟨rfl⟩; rfl)
    · rename_i hs
      exact (h.leave (hs ▸ hst)).arrive (by simp [setClaim]) _ now

/-- A claim in SWITCHING is the target's or waits for it. -/
theorem Sound.vacant_but_target (h : p.Sound) (hd : p.driver = .switching) {f : Feed} (hc : p.connected = some f) :
    (p.freeDriver.setClaim f none).Vacant := by
  obtain ⟨hholder, -, -, hholding, htarget, hlist, hnodup, -, hs⟩ := h
  have hno : p.holder = none := by simpa [hd] using hholder
  have haway := (hs hd).2
  have hstatus : ∀ g, (p.freeDriver.setClaim f none).statusOf g = if g = f then none else p.statusOf g :=
    fun g => by rw [statusOf_setClaim]; rfl
  refine ⟨rfl, rfl, rfl, fun g c hg => ?_, fun g => ?_, hnodup, haway⟩
  · have hst := statusOf_of_claim hg
    rw [hstatus] at hst
    split at hst
    · cases hst
    · rename_i hne
      cases hcs : c.status with
      | waiting => rfl
      | holding => simpa [hno] using hholding g (hcs ▸ hst)
      | target =>
        have := (htarget g (hcs ▸ hst)).2
        exact absurd (Option.some.inj (this.symm.trans hc)) hne
  · rw [hstatus]
    split
    · rename_i hgf
      subst hgf
      exact iff_of_false (by simp) fun hin => haway g hin hc
    · exact hlist g

theorem Sound.switched (h : p.Sound) (hd : p.driver = .switching) (now : Nat) : (p.switched now).Sound := by
  unfold Pda.switched
  obtain ⟨f, hc⟩ : ∃ f, p.connected = some f := by
    obtain ⟨-, -, -, -, -, -, -, -, hs⟩ := id h
    exact Option.isSome_iff_exists.mp (hs hd).1
  have hvac := h.vacant_but_target hd hc
  cases hf : p.claims.get f with
  | none =>
    simp only [hc, hf, Option.bind_some, Option.map_none]
    rw [setClaim_of_none (p := p.freeDriver) hf] at hvac
    exact serveHead_sound hvac now
  | some c =>
    simp only [hc, hf, Option.bind_some, Option.map_some]
    have heq : p.enable f c = p.freeDriver.enable f c := rfl
    exact (heq ▸ hvac.enable (p := p.freeDriver) hc c).judged now

theorem Sound.handed (h : p.Sound) {held : Option DriverClass} {f : Feed}
    (hheld : held = none → p.claims.get f = none) (cls : ClaimClass) (i : SlotNo) (now : Nat) :
    (p.handed held f cls i now).Sound := by
  unfold Pda.handed
  split
  · exact h.arrive (hheld rfl) _ now
  · exact h.replace ..
  · exact h.release f now
  · exact h

/-! ### The feeds that have a claim -/

/-- Every feed with a claim after an operation had one before. -/
def ClaimsWithin (p q : Pda) : Prop := ∀ g, (q.claims.get g).isSome → (p.claims.get g).isSome

theorem ClaimsWithin.rfl' (p : Pda) : p.ClaimsWithin p := fun _ h => h

theorem ClaimsWithin.trans {p q r : Pda} (h : p.ClaimsWithin q) (k : q.ClaimsWithin r) : p.ClaimsWithin r :=
  fun g hg => h g (k g hg)

theorem claimsWithin_set {q : Pda} {f : Feed} {c : Option ClaimRecord} (hq : q.claims = p.claims.set f c)
    (hf : c.isSome → (p.claims.get f).isSome) : p.ClaimsWithin q := fun g hg => by
  rw [hq, PerFeed.get_set] at hg
  split at hg
  · rename_i hgf
    exact hgf ▸ hf hg
  · exact hg

theorem ClaimsWithin.eq_none {q : Pda} {f : Feed} (h : (p.setClaim f none).ClaimsWithin q) : q.claims.get f = none := by
  have := h f
  simpa [setClaim] using this

theorem claimsWithin_drop (p : Pda) (f : Feed) : p.ClaimsWithin (p.setClaim f none) := claimsWithin_set rfl nofun

theorem serve_claims (p : Pda) (f : Feed) (c : ClaimRecord) (now : Nat) :
    ∃ x, (p.serve f c now).claims = p.claims.set f (some x) := by
  unfold serve
  split <;> exact ⟨_, rfl⟩

theorem headClaim_get {g : Feed} {c : ClaimRecord} (h : p.headClaim = some (g, c)) : p.claims.get g = some c := by
  simp only [headClaim, Option.bind_eq_some_iff, Option.map_eq_some_iff, Prod.mk.injEq] at h
  obtain ⟨g', -, c', hc, rfl, rfl⟩ := h
  exact hc

theorem serveHead_within (p : Pda) (now : Nat) : p.ClaimsWithin (p.serveHead now) := by
  unfold serveHead
  split
  · rename_i g c hg
    obtain ⟨x, hx⟩ := (p.leaveList g).serve_claims g c now
    exact claimsWithin_set hx fun _ => by simp [headClaim_get hg]
  · exact .rfl' p

theorem judged_within (p : Pda) (now : Nat) : p.ClaimsWithin (p.judged now) := by
  unfold judged
  split
  · rename_i g c x hg _
    split
    · intro f hf
      by_cases hfg : f = g
      · simp [hfg, headClaim_get hg]
      · have hdropped : (((p.leaveList g).setClaim x.feed none).claims.get f).isSome := by
          simpa [preempted, switchTo, PerFeed.get_set_of_ne _ hfg] using hf
        exact claimsWithin_drop p x.feed f hdropped
    · exact .rfl' p
  · exact .rfl' p

theorem release_within (p : Pda) (f : Feed) (now : Nat) : (p.setClaim f none).ClaimsWithin (p.release f now) := by
  unfold release
  split
  · rename_i hf
    rw [setClaim_of_none hf]
    exact .rfl' p
  · split
    · exact serveHead_within (p.freeDriver.setClaim f none) now
    · exact fun g hg => hg
    · exact .rfl' _

theorem switched_within (p : Pda) (now : Nat) : p.ClaimsWithin (p.switched now) := by
  unfold switched
  split
  · rename_i f c hfc
    have hf : p.claims.get f = some c := by
      simp only [Option.bind_eq_some_iff, Option.map_eq_some_iff, Prod.mk.injEq] at hfc
      obtain ⟨f', -, c', hc, rfl, rfl⟩ := hfc
      exact hc
    exact (claimsWithin_set (q := p.enable f c) rfl fun _ => by simp [hf]).trans (judged_within _ now)
  · exact serveHead_within p.freeDriver now

theorem arrive_within (p : Pda) {f : Feed} (c : ClaimRecord) (now : Nat) {g : Feed} (hg : g ≠ f)
    (h : ((p.arrive f c now).claims.get g).isSome) : (p.claims.get g).isSome := by
  unfold arrive at h
  split at h
  · obtain ⟨x, hx⟩ := p.serve_claims f c now
    simpa [hx, PerFeed.get_set_of_ne _ hg] using h
  · split at h <;> simpa [setClaim, wait, PerFeed.get_set_of_ne _ hg] using h
  · split at h
    · rename_i x _
      split at h
      · refine claimsWithin_drop p x.feed g ?_
        simpa [preempted, switchTo, PerFeed.get_set_of_ne _ hg] using h
      · simpa [wait, PerFeed.get_set_of_ne _ hg] using h
    · simpa [wait, PerFeed.get_set_of_ne _ hg] using h

theorem replace_within (p : Pda) {f : Feed} (cls : DriverClass) (w : SlotNo) (start now : Nat) {g : Feed}
    (hg : g ≠ f) (h : ((p.replace f cls w start now).claims.get g).isSome) : (p.claims.get g).isSome := by
  unfold replace at h
  split at h
  · exact p.arrive_within _ now hg h
  · split at h
    · have := judged_within _ now g h
      simpa [PerFeed.get_set_of_ne _ hg] using this
    · simpa [setClaim, PerFeed.get_set_of_ne _ hg] using h
    · have := arrive_within ((p.leaveList f).setClaim f none) _ now hg h
      exact claimsWithin_drop p f g this

/-- A feed other than f has a claim after a window start of f only if it had one before, and f only if it hands a
class. -/
theorem handed_within (p : Pda) {held : Option DriverClass} {f : Feed} (hheld : held = none → p.claims.get f = none)
    (cls : ClaimClass) (i : SlotNo) (now : Nat) (g : Feed) (h : ((p.handed held f cls i now).claims.get g).isSome) :
    if g = f then cls.isSome else (p.claims.get g).isSome := by
  split
  · rename_i hgf
    subst hgf
    cases cls with
    | some c => rfl
    | none =>
      cases held with
      | some c => simp [handed, (p.release_within g now).eq_none] at h
      | none => simp [handed, hheld rfl] at h
  · rename_i hgf
    unfold handed at h
    split at h
    · exact p.arrive_within _ now hgf h
    · exact p.replace_within _ _ _ now hgf h
    · exact claimsWithin_drop p f g (p.release_within f now g h)
    · exact h

end Pda
end Sys2Proof.Machine
end

section
/-! Chapter 4, what a step keeps of the PDA together with the sequencers whose claims it holds (R51, R63). -/
namespace Sys2Proof.Machine

/-- What R51 and R63 read of a sequencer: its state and its held claim. -/
def Csq.SamePlay (q r : Csq) : Prop := r.heldClaim = q.heldClaim ∧ r.state = q.state

theorem Csq.SamePlay.rfl' (q : Csq) : q.SamePlay q := ⟨rfl, rfl⟩

theorem Csq.counted_samePlay (q : Csq) : q.SamePlay q.counted := by
  unfold Csq.counted
  split
  · exact .rfl' q
  · split <;> exact ⟨rfl, rfl⟩

theorem Csq.played_samePlay (q : Csq) (half : Nat) (o : OriginRecord) : q.SamePlay (q.played half o) := by
  simp only [Csq.played]
  split
  · exact ⟨(Csq.counted_samePlay _).1, (Csq.counted_samePlay _).2⟩
  · exact ⟨rfl, rfl⟩

theorem Csq.activated_samePlay (q : Csq) (n : Nat) : q.SamePlay (q.activated n) := by
  unfold Csq.activated
  split <;> exact ⟨rfl, rfl⟩

theorem Csq.setBank_samePlay (q : Csq) (n : BankNo) (b : Bank) : q.SamePlay (q.setBank n b) := by
  cases n <;> exact ⟨rfl, rfl⟩

namespace State.DriverSound

variable {s t : State}

/-- A feed whose sequencer holds no claim has none at the PDA. -/
theorem no_claim (h : s.DriverSound) {f : Feed} (hf : (s.csq.get f).heldClaim = none) : s.pda.claims.get f = none := by
  obtain ⟨-, hclaims, -⟩ := h
  have := hclaims f
  rw [hf] at this
  simpa using this

theorem held_none (h : s.DriverSound) {f : Feed} (hf : (s.csq.get f).state ≠ .running) :
    (s.csq.get f).heldClaim = none := by
  obtain ⟨-, -, hheld⟩ := h
  have := mt (hheld f) hf
  simpa using this

theorem congr (h : s.DriverSound) (hp : t.pda = s.pda) (hc : t.csq = s.csq) : t.DriverSound := by
  unfold State.DriverSound
  rw [hp, hc]
  exact h

/-- A change of one sequencer that leaves its state and its held claim. -/
theorem samePlay (h : s.DriverSound) (hp : t.pda = s.pda) (f : Feed) {q : Csq} (hc : t.csq = s.csq.set f q)
    (hq : (s.csq.get f).SamePlay q) : t.DriverSound := by
  obtain ⟨hsound, hclaims, hheld⟩ := h
  have hsame : ∀ g, (s.csq.get g).SamePlay (t.csq.get g) := fun g => by
    rw [hc, PerFeed.get_set]
    split
    · rename_i hg
      exact hg ▸ hq
    · exact .rfl' _
  refine ⟨hp ▸ hsound, fun g hg => ?_, fun g hg => ?_⟩
  · rw [(hsame g).1]
    exact hclaims g (hp ▸ hg)
  · rw [(hsame g).1] at hg
    rw [(hsame g).2]
    exact hheld g hg

/-- A sequencer that holds no claim may enter any state. -/
theorem enter (h : s.DriverSound) (hp : t.pda = s.pda) (f : Feed) {q : Csq} (hc : t.csq = s.csq.set f q)
    (hold : (s.csq.get f).heldClaim = none) (hq : q.heldClaim = none) : t.DriverSound := by
  obtain ⟨hsound, hclaims, hheld⟩ := h
  refine ⟨hp ▸ hsound, fun g hg => ?_, fun g hg => ?_⟩
  · have := hclaims g (hp ▸ hg)
    rw [hc, PerFeed.get_set]
    split
    · rename_i hgf
      simp [hgf, hold] at this
    · exact this
  · rw [hc, PerFeed.get_set] at hg ⊢
    split at hg
    · simp [hq] at hg
    · rename_i hgf
      rw [if_neg hgf]
      exact hheld g hg

/-- A withdrawal of the claim of a sequencer, which holds none afterwards (R51). -/
theorem withdrawn (h : s.DriverSound) (f : Feed) {now : Nat} {q : Csq}
    (hp : t.pda = s.pda.withdrawn (s.csq.get f).heldClaim f now) (hc : t.csq = s.csq.set f q)
    (hq : q.heldClaim = none) : t.DriverSound := by
  have hnone := fun hn : (s.csq.get f).heldClaim = none => h.no_claim hn
  obtain ⟨hsound, hclaims, hheld⟩ := h
  have hdrop : (s.pda.setClaim f none).ClaimsWithin t.pda := by
    rw [hp]
    unfold Pda.withdrawn
    split
    · exact s.pda.release_within f now
    · rename_i hn
      rw [Pda.setClaim_of_none (hnone hn)]
      exact .rfl' _
  refine ⟨?_, fun g hg => ?_, fun g hg => ?_⟩
  · rw [hp]
    unfold Pda.withdrawn
    split
    · exact hsound.release f now
    · exact hsound
  · rw [hc, PerFeed.get_set]
    split
    · rename_i hgf
      rw [hgf, hdrop.eq_none] at hg
      cases hg
    · exact hclaims g ((s.pda.claimsWithin_drop f) g (hdrop g hg))
  · rw [hc, PerFeed.get_set] at hg ⊢
    split at hg
    · simp [hq] at hg
    · rename_i hgf
      rw [if_neg hgf]
      exact hheld g hg

/-- A window start of a RUNNING sequencer (R51). -/
theorem handed (h : s.DriverSound) (f : Feed) {now : Nat} {q : Csq} {cls : ClaimClass} {i : SlotNo}
    (hp : t.pda = s.pda.handed (s.csq.get f).heldClaim f cls i now) (hc : t.csq = s.csq.set f q)
    (hq : q.heldClaim = cls) (hrun : q.state = .running) : t.DriverSound := by
  have hnone := fun hn : (s.csq.get f).heldClaim = none => h.no_claim hn
  obtain ⟨hsound, hclaims, hheld⟩ := h
  refine ⟨hp ▸ hsound.handed hnone cls i now, fun g hg => ?_, fun g hg => ?_⟩
  · have hwithin := s.pda.handed_within hnone cls i now g (hp ▸ hg)
    rw [hc, PerFeed.get_set]
    split at hwithin
    · rename_i hgf
      rw [if_pos hgf, hq]
      exact hwithin
    · rename_i hgf
      rw [if_neg hgf]
      exact hclaims g hwithin
  · rw [hc, PerFeed.get_set] at hg ⊢
    split
    · exact hrun
    · rename_i hgf
      rw [if_neg hgf] at hg
      exact hheld g hg

theorem switched (h : s.DriverSound) (hd : s.switchDue = true) : s.endSwitch.DriverSound := by
  simp only [State.switchDue, Bool.and_eq_true, decide_eq_true_eq] at hd
  obtain ⟨hsound, hclaims, hheld⟩ := h
  refine ⟨by simpa using hsound.switched hd.1 s.now, fun g hg => ?_, by simpa using hheld⟩
  rw [State.endSwitch_pda] at hg
  simpa using hclaims g (s.pda.switched_within s.now g hg)

theorem startWindow (h : s.DriverSound) {f : Feed} (hrun : (s.csq.get f).state = .running) (i : SlotNo) :
    (s.startWindow f i).DriverSound := h.handed f (State.startWindow_pda ..) (State.startWindow_csq ..) rfl hrun

theorem armStarts (h : s.DriverSound) {f : Feed} (hrun : (s.csq.get f).state = .running) :
    (s.armStarts f).DriverSound := by
  have harmed (starts : List ArmedStart) : (s.setCsq f { s.csq.get f with armed := starts }).DriverSound :=
    h.samePlay rfl f rfl ⟨rfl, rfl⟩
  simp only [State.armStarts]
  split
  · split
    · exact (harmed _).startWindow (by simpa using hrun) _
    · exact harmed _
  · exact harmed _

theorem playHalf (h : s.DriverSound) {f : Feed} (hrun : (s.csq.get f).state = .running) (half : Nat)
    (o : OriginRecord) (order : BoundaryOrder) : (s.playHalf f half o order).DriverSound := by
  have hplayed := (s.csq.get f).played_samePlay half o
  rw [State.playHalf_eq]
  refine (h.samePlay (s.playedHalf_pda ..) f (s.playedHalf_csq ..) hplayed).armStarts ?_
  rw [State.playedHalf_csq, PerFeed.get_set_self, hplayed.2, hrun]

theorem takeOrigin (h : s.DriverSound) (f : Feed) (o : OriginRecord) (order : BoundaryOrder) :
    (s.takeOrigin f o order).DriverSound := by
  obtain heq | ⟨hrun, heq⟩ | ⟨hwait, heq⟩ := s.takeOrigin_cases f o order <;> rw [heq]
  · exact h
  · exact h.playHalf hrun ..
  · have hold := h.held_none (f := f) (by simp [hwait])
    have hentered : (s.enterSeq f .running).DriverSound := h.enter (by simp) f (State.enterSeq_csq ..) hold hold
    exact hentered.playHalf (by simp) 0 o order

theorem seqTakesChange (h : s.DriverSound) (f : Feed) (new : MainsState) : (s.seqTakesChange f new).DriverSound := by
  unfold State.seqTakesChange
  split
  · exact h.withdrawn f (now := s.now) (by simp) (by simp; rfl) rfl
  · exact h.withdrawn f (now := s.now) (by simp) (by simp; rfl) rfl
  · rename_i hheld
    have hold := h.held_none (f := f) (by simp [hheld])
    exact h.enter (by simp) f (State.enterSeq_csq ..) hold hold
  · exact h

theorem handMains (h : s.DriverSound) (f : Feed) (old new : MainsState) (order : ChangeOrder) :
    (s.handMains f old new order).DriverSound := by
  unfold State.handMains
  split
  · exact h
  · cases order with
    | sequencerFirst => exact (h.seqTakesChange f new).congr (by simp) (by simp)
    | noticeFirst =>
      have htold : (s.offerFeedState f).DriverSound := h.congr (by simp) (by simp)
      exact (htold.seqTakesChange f new).congr (by simp) (by simp)

end State.DriverSound

@[simp] theorem State.activate_pda (s : State) (f : Feed) (n : Nat) : (s.activate f n).1.pda = s.pda := by
  simp only [State.activate]
  split <;> simp

theorem State.OwnerEffect.driverSound {s t : State} (h : s.OwnerEffect t) (hs : s.DriverSound) : t.DriverSound := by
  cases h with
  | configured f => exact hs.samePlay (by simp) f (State.configure_csq ..) ⟨rfl, rfl⟩
  | notched f m =>
    exact hs.congr (State.forEach_pda _ _ (by simp) _) (State.forEach_csq _ _ (by simp) _)
  | started f hstop hpass =>
    have hold := hs.held_none (f := f) (by simp [hstop])
    exact hs.enter (by simp) f (State.enterSeq_csq ..) hold hold
  | stopped f => exact hs.withdrawn f (now := s.now) (by simp) (by rw [State.enterSeq_csq, State.endPlayback_csq]; simp; rfl) rfl
  | restarted f => exact hs.withdrawn f (now := s.now) (by simp) (by simp; rfl) rfl
  | edited f b hedit => exact hs.samePlay rfl f rfl (Csq.setBank_samePlay ..)
  | activated f n => exact hs.samePlay (State.activate_pda s f n) f (State.activate_csq s f n) (Csq.activated_samePlay ..)
  | cancelled f => exact hs.samePlay (by simp) f (State.cancelPending_csq ..) ⟨rfl, rfl⟩
  | _ => exact hs.congr (by simp) (by simp)

theorem State.FrameEffect.csq_eq {s t : State} {f : Feed} (h : s.FrameEffect f t) : t.csq = s.csq := by
  cases h <;> simp [State.reportIdled]

theorem State.Received.csq_eq {s u : State} {f : Feed} (h : s.Received u f) : u.csq = s.csq := by
  obtain ⟨_, _, _, _, _, rfl⟩ := h
  rfl

theorem State.Effect.driverSound {s t : State} (h : s.Effect t) (hs : s.DriverSound) : t.DriverSound := by
  cases h with
  | port t h =>
    cases h with
    | words m => exact hs.congr rfl rfl
    | managed m n u hm hu hn => exact (hu.driverSound (hs.congr rfl rfl)).congr rfl rfl
  | mains f m order hm =>
    have hset : (s.setMtu f m).DriverSound := hs.congr rfl rfl
    exact hset.handMains ..
  | origin f order o =>
    have hset : (s.setMtu f ((s.mtu.get f).originReached o)).DriverSound := hs.congr rfl rfl
    exact hset.takeOrigin ..
  | windowStart f i hrun => exact hs.startWindow hrun i
  | switchEnd hd => exact hs.switched hd
  | received f u h => exact hs.congr h.pda_eq h.csq_eq
  | frame f u t h hslot ht => exact hs.congr (ht.pda_eq.trans h.pda_eq) (ht.csq_eq.trans h.csq_eq)
  | folded b u hb hu => obtain rfl | ⟨r, -, rfl⟩ := hu <;> exact hs.congr (by simp) (by simp)
  | _ => exact hs.congr (by simp) (by simp)

theorem State.reset_driverSound : State.reset.DriverSound := by
  refine ⟨Pda.Vacant.sound ⟨rfl, rfl, rfl, fun f c h => ?_, fun f => ?_, List.nodup_nil, nofun⟩ rfl, fun f h => ?_,
    fun f h => ?_⟩
  · simp [State.reset, Pda.reset] at h
  · simp [State.reset, Pda.reset, Pda.statusOf]
  · simp [State.reset, Pda.reset] at h
  · simp [State.reset, Csq.reset] at h

/-- Settles O6: a claim is handed over, withdrawn or withheld by one operation of the PDA, which keeps it sound, while
the sequencer records the same. -/
theorem stepsKeepTheDriverSound : Obligations.StepsKeepTheDriverSound := fun _ _ hs h =>
  step_keeps State.reset_driverSound (fun _ _ _ _ hs => hs.congr rfl rfl) (fun _ _ hs he => he.driverSound hs) hs h

end Sys2Proof.Machine
end

section
/-! The machine as a whole: what every command answers and keeps, the step at the front of the queue and the idle step,
and the banks that no command writes (R22). -/
namespace Sys2Proof.Machine

/-! ### The tick count, the queue and the counter of free values -/

/-- The clock, the queue and the counter of free values stand. -/
def State.SameClock (s t : State) : Prop := t.pending = s.pending ∧ t.choices = s.choices ∧ t.now = s.now

theorem State.OwnerEffect.sameClock {s t : State} (h : s.OwnerEffect t) : s.SameClock t := by
  cases h with
  | notched f m =>
    exact ⟨State.forEach_pending _ _ (by simp) _, State.forEach_choices _ _ (by simp) _,
      State.forEach_now _ _ (by simp) _⟩
  | activated f n =>
    simp only [State.activate]
    split <;> simp [State.SameClock]
  | _ => simp [State.SameClock]

theorem State.FrameEffect.sameClock {s t : State} {f : Feed} (h : s.FrameEffect f t) : s.SameClock t := by
  cases h <;> simp [State.SameClock, State.reportIdled]

theorem State.Received.sameClock {s u : State} {f : Feed} (h : s.Received u f) : s.SameClock u := by
  obtain ⟨_, _, _, _, _, rfl⟩ := h
  exact ⟨rfl, rfl, rfl⟩

theorem State.SameClock.trans {s t u : State} (h : s.SameClock t) (k : t.SameClock u) : s.SameClock u := by
  obtain ⟨hp, hc, hn⟩ := h
  obtain ⟨kp, kc, kn⟩ := k
  exact ⟨kp.trans hp, kc.trans hc, kn.trans hn⟩

theorem State.Effect.sameClock {s t : State} (h : s.Effect t) : s.SameClock t := by
  cases h with
  | port t h =>
    cases h with
    | words m => exact ⟨rfl, rfl, rfl⟩
    | managed m n u hm hu hn => exact hu.sameClock
  | received f u h => exact h.sameClock
  | frame f u t h hslot ht => exact h.sameClock.trans ht.sameClock
  | folded b u hb hu => obtain rfl | ⟨r, -, rfl⟩ := hu <;> simp [State.SameClock]
  | _ => simp [State.SameClock]

/-- Settles O3: every command but DEVICE_RESET is one of the cases of `State.Effect`, none of which touches the clock,
the queue or the counter of free values. -/
theorem everyCommandAnswersAndKeepsTheQueue : Obligations.EveryCommandAnswersAndKeepsTheQueue := by
  intro c s
  by_cases hc : c = .deviceReset
  · subst hc
    exact ⟨_, rfl, rfl, rfl, fun h => absurd rfl h⟩
  · obtain ⟨t, ht, he⟩ := exec_effect c s hc
    obtain ⟨hpending, hchoices, hnow⟩ := he.sameClock
    exact ⟨t, ht, hpending, hchoices, fun _ => hnow⟩

/-- Settles O1: a step with a command waiting is that command on the queue's rest. -/
theorem stepRunsTheFrontCommand : Obligations.StepRunsTheFrontCommand := by
  intro c rest s h
  simp only [step, h]

/-- Settles O2: an idle step ticks with nothing due, and otherwise takes one of the events due. -/
theorem idleStepTakesADueEventOrATick : Obligations.IdleStepTakesADueEventOrATick := by
  intro s h
  have hstep : step s = idle s := by simp only [step, h]
  rw [hstep, idle]
  cases hdue : s.dueEvents (s.choices + 1) with
  | nil => exact ⟨fun _ => rfl, fun hne => absurd rfl hne⟩
  | cons i rest => exact ⟨nofun, fun _ => ⟨_, pickEvent_mem s.choices i rest, rfl⟩⟩

/-! ### Banks (R22) -/

theorem BankNo.other_ne (n : BankNo) : n.other ≠ n := by cases n <;> nofun

@[simp] theorem Csq.bank_setBank_self (q : Csq) (n : BankNo) (b : Bank) : (q.setBank n b).bank n = b := by
  cases n <;> rfl

theorem Csq.bank_setBank_of_ne (q : Csq) {m n : BankNo} (h : m ≠ n) (b : Bank) : (q.setBank n b).bank m = q.bank m := by
  cases m <;> cases n <;> simp_all [Csq.setBank, Csq.bank]

/-- A sequencer whose two banks are as they were. -/
structure Csq.SameBanks (q r : Csq) : Prop where
  bank : ∀ n, r.bank n = q.bank n

theorem Csq.SameBanks.rfl' (q : Csq) : q.SameBanks q := ⟨fun _ => rfl⟩

theorem Csq.sameBanks_of {q r : Csq} (h0 : r.bank0 = q.bank0) (h1 : r.bank1 = q.bank1) : q.SameBanks r where
  bank
    | .b0 => h0
    | .b1 => h1

theorem Csq.SameBanks.trans {q r u : Csq} (h : q.SameBanks r) (k : r.SameBanks u) : q.SameBanks u :=
  ⟨fun n => (k.bank n).trans (h.bank n)⟩

theorem Csq.counted_sameBanks (q : Csq) : q.SameBanks q.counted := by
  unfold Csq.counted
  split
  · exact .rfl' q
  · split <;> exact Csq.sameBanks_of rfl rfl

theorem Csq.played_sameBanks (q : Csq) (half : Nat) (o : OriginRecord) : q.SameBanks (q.played half o) := by
  simp only [Csq.played]
  split
  · have hset : q.SameBanks { q with
        beaconCount := q.beaconCount + 1, halfIndex := half, currentWindow := none, armed := []
        halfCycle := { t0 := o.t0, polarity := o.polarity, estimate := o.estimate } } :=
      Csq.sameBanks_of rfl rfl
    exact hset.trans (Csq.counted_sameBanks _)
  · exact Csq.sameBanks_of rfl rfl

theorem Csq.activated_sameBanks (q : Csq) (n : Nat) : q.SameBanks (q.activated n) := by
  unfold Csq.activated
  split <;> exact Csq.sameBanks_of rfl rfl

theorem Csq.afterMains_sameBanks (q : Csq) (new : MainsState) : q.SameBanks (q.afterMains new) := by
  unfold Csq.afterMains
  split
  · exact Csq.sameBanks_of rfl rfl
  · split <;> exact Csq.sameBanks_of rfl rfl

/-- Every bank of the part is as it was. -/
structure State.SameBanks (s t : State) : Prop where
  feed : ∀ f, (s.csq.get f).SameBanks (t.csq.get f)

theorem State.sameBanks_of_eq {s t : State} (h : t.csq = s.csq) : s.SameBanks t where
  feed f := by
    rw [h]
    exact .rfl' _

theorem State.sameBanks_of_set {s t : State} (f : Feed) {q : Csq} (h : t.csq = s.csq.set f q)
    (hq : (s.csq.get f).SameBanks q) : s.SameBanks t where
  feed g := by
    rw [h, PerFeed.get_set]
    split
    · rename_i hg
      exact hg ▸ hq
    · exact .rfl' _

theorem State.SameBanks.trans {s t u : State} (h : s.SameBanks t) (k : t.SameBanks u) : s.SameBanks u :=
  ⟨fun f => (h.feed f).trans (k.feed f)⟩

theorem State.armStarts_sameBanks (s : State) (f : Feed) : s.SameBanks (s.armStarts f) := by
  obtain ⟨_, _, _, h⟩ := s.armStarts_csq f
  exact State.sameBanks_of_set f h (Csq.sameBanks_of rfl rfl)

theorem State.playHalf_sameBanks (s : State) (f : Feed) (half : Nat) (o : OriginRecord) (order : BoundaryOrder) :
    s.SameBanks (s.playHalf f half o order) := by
  rw [State.playHalf_eq]
  exact (State.sameBanks_of_set f (State.playedHalf_csq ..) (Csq.played_sameBanks ..)).trans
    (State.armStarts_sameBanks _ f)

theorem State.takeOrigin_sameBanks (s : State) (f : Feed) (o : OriginRecord) (order : BoundaryOrder) :
    s.SameBanks (s.takeOrigin f o order) := by
  obtain heq | ⟨-, heq⟩ | ⟨-, heq⟩ := s.takeOrigin_cases f o order <;> rw [heq]
  · exact State.sameBanks_of_eq rfl
  · exact s.playHalf_sameBanks ..
  · have henter := State.sameBanks_of_set f (s.enterSeq_csq f .running) (Csq.sameBanks_of rfl rfl)
    exact henter.trans (State.playHalf_sameBanks _ f _ o order)

theorem State.mainsBecomes_sameBanks (s : State) (f : Feed) (m : Mtu) (order : ChangeOrder) :
    s.SameBanks (s.mainsBecomes f m order) := by
  have h := s.mainsBecomes_csq f m order
  split at h
  · exact State.sameBanks_of_eq h
  · exact State.sameBanks_of_set f h (Csq.afterMains_sameBanks ..)

/-- The owner of a command leaves the banks, or edits the pending bank in EDIT. -/
theorem State.OwnerEffect.banks {s t : State} (h : s.OwnerEffect t) :
    s.SameBanks t ∨ ∃ f b, (s.csq.get f).pendingState = .edit ∧
      t.csq = s.csq.set f ((s.csq.get f).setBank (s.csq.get f).pendingNo b) := by
  cases h with
  | edited f b hedit => exact .inr ⟨f, b, hedit, rfl⟩
  | notched f m => exact .inl (State.sameBanks_of_eq (State.forEach_csq _ _ (by simp) _))
  | activated f n =>
    exact .inl (State.sameBanks_of_set f (State.activate_csq ..) (Csq.activated_sameBanks ..))
  | configured f => exact .inl (State.sameBanks_of_set f (State.configure_csq ..) (Csq.sameBanks_of rfl rfl))
  | started f => exact .inl (State.sameBanks_of_set f (State.enterSeq_csq ..) (Csq.sameBanks_of rfl rfl))
  | stopped f =>
    exact .inl ((State.sameBanks_of_set f (State.endPlayback_csq ..) (Csq.sameBanks_of rfl rfl)).trans
      (State.sameBanks_of_set f (State.enterSeq_csq ..) (Csq.sameBanks_of rfl rfl)))
  | restarted f =>
    exact .inl ((State.sameBanks_of_set f (State.restartSeq_csq ..) (Csq.sameBanks_of rfl rfl)).trans
      (State.sameBanks_of_eq (by simp)))
  | cancelled f => exact .inl (State.sameBanks_of_set f (State.cancelPending_csq ..) (Csq.sameBanks_of rfl rfl))
  | _ => exact .inl (State.sameBanks_of_eq (by simp))

theorem State.Effect.banks {s t : State} (h : s.Effect t) :
    s.SameBanks t ∨ ∃ f b, (s.csq.get f).pendingState = .edit ∧
      t.csq = s.csq.set f ((s.csq.get f).setBank (s.csq.get f).pendingNo b) := by
  cases h with
  | port t h =>
    cases h with
    | words m => exact .inl (State.sameBanks_of_eq rfl)
    | managed m n u hm hu hn =>
      obtain hsame | h := hu.banks
      · exact .inl ⟨hsame.feed⟩
      · exact .inr h
  | mains f m order hm => exact .inl (s.mainsBecomes_sameBanks ..)
  | origin f order o =>
    have hmtu : s.SameBanks (s.setMtu f ((s.mtu.get f).originReached o)) := State.sameBanks_of_eq rfl
    exact .inl (hmtu.trans (State.takeOrigin_sameBanks _ f _ order))
  | windowStart f i =>
    exact .inl (State.sameBanks_of_set f (State.startWindow_csq ..) (Csq.sameBanks_of rfl rfl))
  | received f u h => exact .inl (State.sameBanks_of_eq h.csq_eq)
  | frame f u t h hslot ht => exact .inl (State.sameBanks_of_eq (ht.csq_eq.trans h.csq_eq))
  | folded b u hb hu => obtain rfl | ⟨r, -, rfl⟩ := hu <;> exact .inl (State.sameBanks_of_eq (by simp))
  | _ => exact .inl (State.sameBanks_of_eq (by simp))

/-- Settles O12: the one case that writes a bank writes the pending bank of a feed, in EDIT. -/
theorem currentBankIsNeverWritten : Obligations.CurrentBankIsNeverWritten := by
  intro c s t f hc h
  obtain hsame | ⟨g, b, hedit, hcsq⟩ := (exec_next_effect hc h).banks
  · exact ⟨(hsame.feed f).bank _, fun _ => (hsame.feed f).bank _⟩
  · rw [hcsq, PerFeed.get_set]
    split
    · rename_i hfg
      subst hfg
      exact ⟨Csq.bank_setBank_of_ne _ (BankNo.other_ne _).symm b, fun hcounting => absurd hedit hcounting⟩
    · exact ⟨rfl, fun _ => rfl⟩

end Sys2Proof.Machine
end

section
/-! A step as a run of small changes, said once: `State.Runs` lists the changes of the CLCs, links, streams' states,
Planner, fetch claims and event queue that an operation makes one after the other, each kept whole where an invariant
needs it whole. The invariants of chapters 5 to 11 are inductions over it. -/
namespace Sys2Proof.Machine

/-! ### The changes -/

/-- Nothing has changed of what the invariants of chapters 5 to 11 read, the counts of uses apart: the CLCs, links,
fetch claims, Planner and events stand, and so do the boundary lists, the members and the states of the streams. -/
structure State.Quiet (s t : State) : Prop where
  clc : t.clc = s.clc
  links : t.links = s.links
  claims : t.claims = s.claims
  planner : t.planner = s.planner
  events : t.mgp.events = s.mgp.events
  boundaries : ∀ f, (t.mtu.get f).boundaries = (s.mtu.get f).boundaries
  member : ∀ n, (t.station n).member = (s.station n).member
  generation : ∀ n, (t.station n).generation = (s.station n).generation
  stream : ∀ n, (t.stream n).state = (s.stream n).state

/-- A record of the Link Supervisor that keeps the link's feed, generation and pending cause. -/
structure LinkRecord.SameLink (r q : LinkRecord) : Prop where
  feed : q.feed = r.feed
  generation : q.generation = r.generation
  pendingCause : q.pendingCause = r.pendingCause

/-- A run of changes, each of which is one change of a CLC, of a link, of the Planner, of the claims or of the event
queue. -/
inductive State.Runs : State → State → Prop
  | trans {s t u : State} (h : s.Runs t) (k : t.Runs u) : s.Runs u
  | quiet {s t : State} (h : s.Quiet t) : s.Runs t
  | event (s : State) (e : EventRecord) : s.Runs (s.offerEvent e)
  | eventTaken (s : State) (e : EventRecord) (rest : List EventRecord) (he : s.mgp.events = e :: rest) :
      s.Runs (s.setMgp { s.mgp with events := rest })
  | timing (s : State) (f : Feed) (n : TimingNotice) : s.Runs (s.offerTiming f n)
  | general (s : State) (f : Feed) (n : GeneralNotice) : s.Runs (s.offerGeneral f n)
  | chose (s : State) (f : Feed) : s.Runs (s.chooseFrame f)
  | lined (s : State) (f : Feed) (link : LinkState) (receiver : Receiver) (transmitter : Transmitter)
      (dropped : Bool) :
      s.Runs (s.setClc f { s.clc.get f with
        link := link, receiver := receiver, transmitter := transmitter, dropped := dropped })
  | answered (s : State) (f : Feed) (tag : Byte) (r : Response) (hslot : (s.clc.get f).slot = none)
      (hr : r ≠ .mapData) : s.Runs (s.setClc f { s.clc.get f with slot := some ⟨tag, r, false⟩ })
  | fetched (s : State) (f : Feed) (tag : Byte) (l : LinkNo) (k : Link) (version : Byte) (zone : Nat)
      (named : ClaimedSet) (hslot : (s.clc.get f).slot = none) (hk : s.link l = some k) (hf : k.record.feed = f)
      (hv : k.versioned version = some named) (hz : zone < s.zoneCount f) :
      s.Runs ((s.setClaim f (some ⟨l, k.record.generation, zone, named⟩)).setClc f
        { s.clc.get f with slot := some ⟨tag, .mapData, false⟩ })
  | slotEnded (s : State) (f : Feed) :
      s.Runs ((s.setClc f { (s.clc.get f).ended s.now with slot := none }).setClaim f none)
  | flushed (s : State) (f : Feed) : s.Runs ((s.setClc f ((s.clc.get f).flush s.now)).setClaim f none)
  | purged (s : State) (f : Feed) (n : StationIx) : s.Runs (s.purgeNotices f n)
  | reportIdled (s : State) (f : Feed) (hnot : ∀ b gap, (s.clc.get f).report ≠ .open_ b gap) :
      s.Runs (s.reportIdled f)
  | reportOpened (s : State) (f : Feed) (b : BufNo) (r : Report) (gap : Nat)
      (hnot : ∀ b gap, (s.clc.get f).report ≠ .open_ b gap) (hfree : (s.clc.get f).freeBuffer = some b) :
      s.Runs (s.setClc f ((s.clc.get f).startReport b r gap))
  | reportExtended (s : State) (f : Feed) (b : BufNo) (r r' : Report) (gap : Nat)
      (ho : (s.clc.get f).openReport = some (b, r)) : s.Runs (s.setClc f ((s.clc.get f).startReport b r' gap))
  | reportFilled (s : State) (f : Feed) (b : BufNo) (r r' : Report) (ho : (s.clc.get f).openReport = some (b, r)) :
      s.Runs ((s.setClc f { (s.clc.get f).setBuffer b (.full r') with report := .idle }).setPlanner
        { s.planner with foldQueue := s.planner.foldQueue ++ [⟨f, b⟩] })
  | reportEnded (s : State) (f : Feed) (next : ReportState) (hnext : ∀ b gap, next ≠ .open_ b gap) :
      s.Runs (s.setClc f ((s.clc.get f).closeReport next))
  | foldTaken (s : State) (r : BufRef) (rest : List BufRef) (hidle : s.planner.engine = .idle)
      (hq : s.planner.foldQueue = r :: rest) :
      s.Runs ((s.setBuffer r ((s.clc.get r.feed).buffer r.buf).startFold).setPlanner
        { s.planner with engine := .folding r, foldQueue := rest })
  | foldWritten (s : State) (l : LinkNo) (k : Link) (zone : Nat) (r : Report) (hk : s.link l = some k) :
      s.Runs (s.setLink l (some { k with channel := changeZone k.channel zone (foldZone r) }))
  | foldEnded (s : State) (b : BufRef) (hb : s.planner.engine = .folding b) :
      s.Runs ((s.setBuffer b .free).setPlanner { s.planner with engine := .idle })
  | planOffered (s : State) (l : LinkNo) (k : Link) (hk : s.link l = some k) : s.Runs (s.offerPlan l)
  | urgentOffered (s : State) (l : LinkNo) (k : Link) (cause : Cause) (hk : s.link l = some k)
      (hc : cause ≠ .plan) : s.Runs (s.offerUrgent l cause)
  | planTaken (s : State) (e : PlanEntry) (rest : Planner) (hidle : s.planner.engine = .idle)
      (hnext : s.planner.nextPlan = some (e, rest)) : s.Runs (s.takePlan e rest)
  | planWaits (s : State) (job : PlanJob) (zones : List ZoneMap) (hjob : s.planner.engine = .planning job zones) :
      s.Runs (s.setPlanner { s.planner with engine := .waitingClaim job zones })
  | planDropped (s : State) (job : PlanJob) (zones : List ZoneMap)
      (hjob : s.planner.engine.job = some (job, zones)) : s.Runs (s.setPlanner { s.planner with engine := .idle })
  | planPublished (s : State) (job : PlanJob) (zones : List ZoneMap) (k : Link)
      (hjob : s.planner.engine.job = some (job, zones)) (hk : s.link job.link = some k)
      (hp : job.publishes zones k = true) :
      s.Runs ((s.setPlanner { s.planner with engine := .idle }).setLink job.link
        (some (k.publish zones job.grade job.cause)))
  | recorded (s : State) (l : LinkNo) (k : Link) (r : LinkRecord) (hk : s.link l = some k)
      (hr : k.record.SameLink r) (hg : r.grade = k.record.grade) : s.Runs (s.setRecord l k r)
  | regraded (s : State) (l : LinkNo) (k : Link) (r : LinkRecord) (hk : s.link l = some k)
      (hr : k.record.SameLink r) (hg : r.grade ≠ k.record.grade) :
      s.Runs ((s.setRecord l k r).streamsFollow l k.record.grade r.grade)
  | counted (s : State) (l : LinkNo) (k : Link) (n : NextSet) (hk : s.link l = some k) (hn : k.next = some n)
      (hc : 1 < n.countdown) :
      s.Runs (s.setLink l (some { k with next := some { n with countdown := n.countdown - 1 } }))
  | switched (s : State) (l : LinkNo) (k : Link) (n : NextSet) (hk : s.link l = some k) (hn : k.next = some n) :
      s.Runs ((s.setLink l (some (k.switch n))).eachClaim (·.switched l k.active))

/-! ### Changes that are quiet -/

namespace State.Quiet

theorem rfl' (s : State) : s.Quiet s :=
  ⟨rfl, rfl, rfl, rfl, rfl, fun _ => rfl, fun _ => rfl, fun _ => rfl, fun _ => rfl⟩

theorem trans {s t u : State} (h : s.Quiet t) (k : t.Quiet u) : s.Quiet u where
  clc := k.clc.trans h.clc
  links := k.links.trans h.links
  claims := k.claims.trans h.claims
  planner := k.planner.trans h.planner
  events := k.events.trans h.events
  boundaries f := (k.boundaries f).trans (h.boundaries f)
  member n := (k.member n).trans (h.member n)
  generation n := (k.generation n).trans (h.generation n)
  stream n := (k.stream n).trans (h.stream n)

theorem setCsq (s : State) (f : Feed) (q : Csq) : s.Quiet (s.setCsq f q) :=
  ⟨rfl, rfl, rfl, rfl, rfl, fun _ => rfl, fun _ => rfl, fun _ => rfl, fun _ => rfl⟩

theorem setPda (s : State) (p : Pda) : s.Quiet (s.setPda p) :=
  ⟨rfl, rfl, rfl, rfl, rfl, fun _ => rfl, fun _ => rfl, fun _ => rfl, fun _ => rfl⟩

theorem setMgp {s : State} {m : Mgp} (h : m.events = s.mgp.events) : s.Quiet (s.setMgp m) :=
  ⟨rfl, rfl, rfl, rfl, h, fun _ => rfl, fun _ => rfl, fun _ => rfl, fun _ => rfl⟩

theorem setNotch (s : State) (f : Feed) (m : NotchMask) : s.Quiet { s with notch := s.notch.set f m } :=
  ⟨rfl, rfl, rfl, rfl, rfl, fun _ => rfl, fun _ => rfl, fun _ => rfl, fun _ => rfl⟩

theorem setMtu {s : State} {f : Feed} {m : Mtu} (h : m.boundaries = (s.mtu.get f).boundaries) :
    s.Quiet (s.setMtu f m) where
  clc := rfl
  links := rfl
  claims := rfl
  planner := rfl
  events := rfl
  boundaries g := by
    rw [State.setMtu_mtu, PerFeed.get_set]
    split
    · rename_i hg
      rw [h, hg]
    · rfl
  member _ := rfl
  generation _ := rfl
  stream _ := rfl

/-- A new count of uses of a station. -/
theorem setRefs (s : State) (n : StationIx) (c : Nat) : s.Quiet (s.setStation n { s.station n with refs := c }) where
  clc := rfl
  links := rfl
  claims := rfl
  planner := rfl
  events := rfl
  boundaries _ := rfl
  member m := by
    by_cases h : m = n
    · subst h; simp
    · rw [State.station_setStation_of_ne s h]
  generation m := by
    by_cases h : m = n
    · subst h; simp
    · rw [State.station_setStation_of_ne s h]
  stream _ := rfl

/-- A new count of uses of a stream. -/
theorem setUses (s : State) (n : StreamNo) (c : Nat) : s.Quiet (s.setStream n { s.stream n with refs := c }) where
  clc := rfl
  links := rfl
  claims := rfl
  planner := rfl
  events := rfl
  boundaries _ := rfl
  member _ := rfl
  generation _ := rfl
  stream m := by
    by_cases h : m = n
    · subst h; simp
    · rw [State.stream_setStream_of_ne s h]

theorem holdWindow (s : State) (w : Window) : s.Quiet (s.holdWindow w) := by
  unfold State.holdWindow
  split
  · exact .setUses ..
  · exact .setRefs ..
  · exact .rfl' s

theorem dropWindow (s : State) (w : Window) : s.Quiet (s.dropWindow w) := by
  unfold State.dropWindow
  split
  · exact .setUses ..
  · exact .setRefs ..
  · exact .rfl' s

theorem forEach {α : Type} {g : State → α → State} (h : ∀ (s : State) a, s.Quiet (g s a)) (l : List α) (s : State) :
    s.Quiet (s.forEach l g) := by
  induction l generalizing s with
  | nil => exact .rfl' s
  | cons a rest ih => exact (h s a).trans (ih (g s a))

theorem countBank (s : State) (b : Bank) : s.Quiet (s.countBank b) := .forEach (fun s _ => .holdWindow s _) _ s

theorem releaseBank (s : State) (b : Bank) : s.Quiet (s.releaseBank b) := .forEach (fun s _ => .dropWindow s _) _ s

theorem cancelPending (s : State) (f : Feed) : s.Quiet (s.cancelPending f) := by
  unfold State.cancelPending
  split
  · exact .rfl' s
  · exact (Quiet.releaseBank s _).trans (.setCsq ..)

end State.Quiet

/-! ### Operations of the sequencer and the driver -/

namespace State.Runs

theorem rfl' (s : State) : s.Runs s := .quiet (.rfl' s)

theorem forEach {α : Type} {g : State → α → State} (h : ∀ (s : State) a, s.Runs (g s a)) (l : List α) (s : State) :
    s.Runs (s.forEach l g) := by
  induction l generalizing s with
  | nil => exact .rfl' s
  | cons a rest ih => exact (h s a).trans (ih (g s a))

theorem setCsq (s : State) (f : Feed) (q : Csq) : s.Runs (s.setCsq f q) := .quiet (.setCsq s f q)

theorem setPda (s : State) (p : Pda) : s.Runs (s.setPda p) := .quiet (.setPda s p)

theorem grantDriver (s : State) (f : Feed) (c : ClaimRecord) : s.Runs (s.grantDriver f c) :=
  (Runs.setPda s _).trans (.timing ..)

theorem serveAtFree (s : State) (f : Feed) (c : ClaimRecord) : s.Runs (s.serveAtFree f c) := by
  unfold State.serveAtFree
  split
  · exact .grantDriver ..
  · exact .setPda ..

theorem waitForDriver (s : State) (f : Feed) (c : ClaimRecord) : s.Runs (s.waitForDriver f c) := by
  have told (p : Pda) (o : DriverOutcome) : s.Runs ((s.setPda p).offerDriver f o c) :=
    (Runs.setPda s p).trans (.timing ..)
  simp only [State.waitForDriver]
  split
  · exact (told _ _).trans (.event ..)
  · exact told _ _

theorem preempt (s : State) (h : Holder) (f : Feed) (c : ClaimRecord) : s.Runs (s.preempt h f c) := by
  have lost (old : ClaimRecord) :
      s.Runs ((s.setPda (s.pda.setClaim h.feed none)).offerDriver h.feed (.lost (some f)) old) :=
    (Runs.setPda s _).trans (.timing ..)
  unfold State.preempt
  simp only
  split
  · exact (lost _).trans (.setPda ..)
  · exact .setPda ..

theorem claimArrives (s : State) (f : Feed) (c : ClaimRecord) : s.Runs (s.claimArrives f c) := by
  unfold State.claimArrives
  split
  · exact .serveAtFree ..
  · split
    · exact .setPda ..
    · exact .waitForDriver ..
  · split
    · split
      · exact .preempt ..
      · exact .waitForDriver ..
    · exact .waitForDriver ..

theorem judgeHead (s : State) : s.Runs s.judgeHead := by
  unfold State.judgeHead
  split
  · split
    · split
      · exact (Runs.setPda s _).trans (.preempt ..)
      · exact .rfl' s
    · exact .rfl' s
  · exact .rfl' s

theorem serveList (s : State) : s.Runs s.serveList := by
  unfold State.serveList
  split
  · split
    · exact (Runs.setPda s _).trans (.serveAtFree ..)
    · exact .rfl' s
  · exact .rfl' s

theorem releaseDriver (s : State) (f : Feed) : s.Runs (s.releaseDriver f) := by
  unfold State.releaseDriver
  split
  · exact .rfl' s
  · split
    · exact (Runs.setPda s _).trans (.serveList _)
    · exact .setPda ..
    · exact .setPda ..

theorem replaceClaim (s : State) (f : Feed) (cls : DriverClass) (w : SlotNo) (start : Nat) :
    s.Runs (s.replaceClaim f cls w start) := by
  unfold State.replaceClaim
  split
  · exact .claimArrives ..
  · split
    · exact ((Runs.setPda s _).trans (.timing ..)).trans (.judgeHead _)
    · exact .setPda ..
    · exact (Runs.setPda s _).trans (.claimArrives ..)

theorem endSwitch (s : State) : s.Runs s.endSwitch := by
  unfold State.endSwitch
  split
  · exact (Runs.grantDriver ..).trans (.judgeHead _)
  · exact (Runs.setPda s _).trans (.serveList _)

theorem handClaim (s : State) (f : Feed) (cls : ClaimClass) (i : SlotNo) : s.Runs (s.handClaim f cls i) := by
  simp only [State.handClaim]
  split
  · exact (Runs.setCsq s f _).trans (.claimArrives ..)
  · exact (Runs.setCsq s f _).trans (.replaceClaim ..)
  · exact (Runs.setCsq s f _).trans (.releaseDriver ..)
  · exact .rfl' s

theorem withdraw (s : State) (f : Feed) : s.Runs (s.withdraw f) := by
  unfold State.withdraw
  split
  · exact (Runs.setCsq s f _).trans (.releaseDriver ..)
  · exact .rfl' s

theorem startWindow (s : State) (f : Feed) (i : SlotNo) : s.Runs (s.startWindow f i) :=
  ((Runs.setCsq s f _).trans (.timing ..)).trans (.handClaim ..)

theorem endPlayback (s : State) (f : Feed) : s.Runs (s.endPlayback f) := (Runs.setCsq s f _).trans (.withdraw ..)

theorem enterSeq (s : State) (f : Feed) (st : SeqState) : s.Runs (s.enterSeq f st) :=
  (Runs.setCsq s f _).trans (.general ..)

theorem seqTakesChange (s : State) (f : Feed) (new : MainsState) : s.Runs (s.seqTakesChange f new) := by
  unfold State.seqTakesChange
  split
  · exact (Runs.endPlayback s f).trans (.enterSeq ..)
  · exact (Runs.endPlayback s f).trans (.enterSeq ..)
  · exact .enterSeq ..
  · exact .rfl' s

theorem handMains (s : State) (f : Feed) (old new : MainsState) (order : ChangeOrder) :
    s.Runs (s.handMains f old new order) := by
  unfold State.handMains
  split
  · exact .rfl' s
  · cases order with
    | sequencerFirst => exact ((Runs.seqTakesChange s f new).trans (.general ..)).trans (.event ..)
    | noticeFirst => exact ((Runs.general s ..).trans (.seqTakesChange ..)).trans (.event ..)

theorem mainsBecomes {s : State} {f : Feed} {m : Mtu} (h : m.boundaries = (s.mtu.get f).boundaries)
    (order : ChangeOrder) : s.Runs (s.mainsBecomes f m order) := (Runs.quiet (.setMtu h)).trans (.handMains ..)

theorem skipUnreached (s : State) (f : Feed) : s.Runs (s.skipUnreached f) :=
  (Runs.forEach (fun _ _ => .timing ..) _ s).trans (.setCsq ..)

theorem exchangeRoles (s : State) (f : Feed) : s.Runs (s.exchangeRoles f) :=
  (Runs.quiet ((State.Quiet.releaseBank s _).trans (.setCsq ..))).trans (.event ..)

theorem countPending (s : State) (f : Feed) : s.Runs (s.countPending f) := by
  unfold State.countPending
  split
  · exact .rfl' s
  · split
    · exact .exchangeRoles s f
    · exact .setCsq ..

/-! ### Operations of the Map Store and the Link Supervisor -/

theorem evaluate {s : State} {l : LinkNo} {k : Link} {r : LinkRecord} (hk : s.link l = some k)
    (hr : k.record.SameLink r) (hg : r.grade = k.record.grade) (trigger : Trigger) (zone : Option Nat) :
    s.Runs (s.evaluate l { k with record := r } trigger zone) := by
  have hsame : k.record.SameLink r.evaluated := ⟨hr.feed, hr.generation, hr.pendingCause⟩
  simp only [State.evaluate]
  split
  · rename_i hkeep
    exact .recorded s l k _ hk hsame (hkeep.trans hg)
  · rename_i hchange
    have hgrade : r.evaluated.grade ≠ k.record.grade := fun h => hchange (h.trans hg.symm)
    have hfollow := Runs.regraded s l k _ hk hsame hgrade
    have hlive : ((s.setRecord l k r.evaluated).streamsFollow l k.record.grade r.evaluated.grade).link l =
        some { k with record := r.evaluated } := by
      rw [State.link_congr (s := s.setRecord l k r.evaluated) (by simp)]
      exact State.link_setLink_self s (State.six_le_of_link hk) _
    have hcause : changeCause r.grade r.judge.grade ≠ .plan := by
      unfold changeCause
      split <;> nofun
    rw [← hg] at hfollow hlive
    exact ((hfollow.trans (.urgentOffered _ l _ _ hlive hcause)).trans (.general ..)).trans (.event ..)

theorem tallyReport {s : State} {l : LinkNo} {k : Link} (hk : s.link l = some k) (zone ok failed : Nat) :
    s.Runs (s.tallyReport l k zone ok failed) := by
  simp only [State.tallyReport]
  split
  · exact .evaluate (r := k.record.tally ok failed) hk ⟨rfl, rfl, rfl⟩ rfl ..
  · exact .recorded s l k _ hk ⟨rfl, rfl, rfl⟩ rfl

theorem idleLink (s : State) (l : LinkNo) : s.Runs (s.idleLink l) := by
  simp only [State.idleLink]
  split
  · exact .rfl' s
  · rename_i k hk
    split
    · exact .evaluate (r := k.record.nextPeriod) hk ⟨rfl, rfl, rfl⟩ rfl ..
    · exact .recorded s l k _ hk ⟨rfl, rfl, rfl⟩ rfl

theorem countLink (s : State) (l : LinkNo) : s.Runs (s.countLink l) := by
  unfold State.countLink
  split
  · exact .rfl' s
  · rename_i k hk
    split
    · exact .rfl' s
    · rename_i n hn
      split
      · exact (Runs.switched s l k n hk hn).trans (.general ..)
      · exact .counted s l k n hk hn (by omega)

theorem handBoundary (s : State) (f : Feed) (order : BoundaryOrder) : s.Runs (s.handBoundary f order) := by
  have store (s : State) : s.Runs (s.storeBoundary f) := .forEach (fun s l => .countLink s l) _ s
  have supervise (s : State) : s.Runs (s.superviseBoundary f) := .forEach (fun s l => .idleLink s l) _ s
  unfold State.handBoundary
  split
  · exact (store s).trans (supervise _)
  · exact (supervise s).trans (store _)

theorem completePlan {s : State} {job : PlanJob} {zones : List ZoneMap}
    (hjob : s.planner.engine.job = some (job, zones)) : s.Runs (s.completePlan job zones) := by
  simp only [State.completePlan]
  split
  · rename_i k hk
    split
    · rename_i hp
      exact (Runs.planPublished s job zones k hjob hk hp).trans (.general ..)
    · exact .planDropped s job zones hjob
  · exact .planDropped s job zones hjob

/-- The release of a claim, once the claim itself is gone, completes a plan job or does nothing. -/
theorem releaseClaim {s t : State} {f : Feed} (h : s.Runs (t.setClaim f none)) : s.Runs (t.releaseClaim f) := by
  unfold State.releaseClaim
  split
  · rename_i hnone
    have hsame : t.setClaim f none = t := by
      rw [State.setClaim, ← hnone, PerFeed.set_get]
    rwa [hsame] at h
  · split
    · rename_i job zones hengine
      simp only
      split
      · exact h.trans (.completePlan (by simp [hengine, Engine.job]))
      · exact h
    · exact h

/-! ### Playing an origin -/

theorem playBoundary (s : State) (f : Feed) (order : BoundaryOrder) : s.Runs (s.playBoundary f order) :=
  (((Runs.setCsq s f _).trans (.countPending ..)).trans (.timing ..)).trans (.handBoundary ..)

theorem armStarts (s : State) (f : Feed) : s.Runs (s.armStarts f) := by
  simp only [State.armStarts]
  split
  · split
    · exact (Runs.setCsq s f _).trans (.startWindow ..)
    · exact .setCsq ..
  · exact .setCsq ..

theorem playHalf (s : State) (f : Feed) (half : Nat) (o : OriginRecord) (order : BoundaryOrder) :
    s.Runs (s.playHalf f half o order) := by
  have begun (q : Csq) : s.Runs ((s.skipUnreached f).setCsq f q) := (Runs.skipUnreached s f).trans (.setCsq ..)
  simp only [State.playHalf]
  split
  · exact (((begun _).trans (.playBoundary ..)).trans (.timing ..)).trans (.armStarts ..)
  · exact ((begun _).trans (.timing ..)).trans (.armStarts ..)

theorem takeOrigin (s : State) (f : Feed) (o : OriginRecord) (order : BoundaryOrder) :
    s.Runs (s.takeOrigin f o order) := by
  obtain heq | ⟨-, heq⟩ | ⟨-, heq⟩ := s.takeOrigin_cases f o order <;> rw [heq]
  · exact .rfl' s
  · exact .playHalf ..
  · exact (Runs.enterSeq s f .running).trans (.playHalf ..)

/-! ### The line of a cycle link -/

/-- A response ends while the transmitter chooses: with the slot empty the choice does not read the claim. -/
theorem chooseFrame_setClaim (s : State) (f g : Feed) (hslot : (s.clc.get f).slot = none) (c : Option FetchClaim) :
    (s.chooseFrame f).setClaim g c = (s.setClaim g c).chooseFrame f := by
  simp only [State.chooseFrame, State.sendResponse, hslot, State.sendGeneral, State.setClaim_clc]
  (repeat' split) <;> rfl

theorem endResponse (s : State) (f : Feed) (order : EndOrder) : s.Runs (s.endResponse f order) := by
  have hended := Runs.slotEnded s f
  simp only [State.endResponse]
  split
  · rename_i hnone
    have hsame : (s.setClc f { (s.clc.get f).ended s.now with slot := none }).setClaim f none =
        s.setClc f { (s.clc.get f).ended s.now with slot := none } := by
      rw [State.setClaim, State.setClc_claims, ← hnone, PerFeed.set_get]
      rfl
    rw [hsame] at hended
    exact hended.trans (.chose ..)
  · exact (Runs.releaseClaim hended).trans (.chose ..)
  · refine .releaseClaim ?_
    rw [chooseFrame_setClaim _ f f (by simp)]
    exact hended.trans (.chose ..)

theorem flushLink (s : State) (f : Feed) : s.Runs (s.flushLink f) :=
  (Runs.releaseClaim (.flushed s f)).trans (.reportEnded _ f .idle nofun)

theorem restartMains (s : State) (f : Feed) : s.Runs (s.restartMains f) := by
  have absent : s.Runs (s.setMtu f (s.mtu.get f).enterAbsent) := .quiet (.setMtu rfl)
  simp only [State.restartMains]
  split
  · exact absent
  · exact absent.trans (.event ..)

theorem restartSeq (s : State) (f : Feed) : s.Runs (s.restartSeq f) :=
  ((Runs.endPlayback s f).trans (.quiet (.cancelPending ..))).trans (.setCsq ..)

theorem abandonRemoved (s : State) (f : Feed) (n : StationIx) : s.Runs (s.abandonRemoved f n) := by
  unfold State.abandonRemoved
  split
  · split
    · exact (Runs.reportEnded s f .removed nofun).trans (.general ..)
    · exact .rfl' s
  · exact .rfl' s

theorem foldReport {s : State} {r : Report} {k : Link} (hk : s.link r.link = some k) : s.Runs (s.foldReport r k) := by
  have written := Runs.foldWritten s r.link k r.zone r hk
  simp only [State.foldReport]
  split
  · exact written.trans (.planOffered _ _ _ (State.link_setLink_self s (State.six_le_of_link hk) _))
  · exact written

theorem endFold (s : State) (r : Report) : s.Runs (s.endFold r) := by
  unfold State.endFold
  split
  · rename_i k hk
    split
    · exact .foldReport hk
    · exact .rfl' s
  · exact .rfl' s

theorem respond {s : State} {f : Feed} (hslot : (s.clc.get f).slot = none) (tag : Byte) {r : Response}
    (hr : r ≠ .mapData) : s.Runs (s.respond f tag r) := (Runs.answered s f tag r hslot hr).trans (.chose ..)

end State.Runs

end Sys2Proof.Machine
end

section
/-! Every command but DEVICE_RESET is a run of changes, or one of the five management commands that change the
membership of stations and streams (`State.Progress`). -/
namespace Sys2Proof.Machine

/-! ### Boundary lists -/

@[simp] theorem Mtu.enterAbsent_boundaries (m : Mtu) : m.enterAbsent.boundaries = m.boundaries := rfl

@[simp] theorem Mtu.originReached_boundaries (m : Mtu) (o : PendingOrigin) :
    (m.originReached o).boundaries = m.boundaries := rfl

@[simp] theorem Mtu.expireWindow_boundaries (m : Mtu) (now : Nat) : (m.expireWindow now).boundaries = m.boundaries := by
  unfold Mtu.expireWindow
  (repeat' split) <;> rfl

@[simp] theorem Mtu.trackingEdge_boundaries (m : Mtu) (x : Crossing) (t : Nat) (p : Polarity) :
    (m.trackingEdge x t p).boundaries = m.boundaries := by
  unfold Mtu.trackingEdge
  (repeat' split) <;> rfl

@[simp] theorem Mtu.acquiringEdge_boundaries (m : Mtu) (x : Crossing) (t : Nat) (p : Polarity) :
    (m.acquiringEdge x t p).boundaries = m.boundaries := by
  simp only [Mtu.acquiringEdge]
  (repeat' split) <;> rfl

@[simp] theorem Mtu.edge_boundaries (m : Mtu) (t : Nat) (p : Polarity) : (m.edge t p).boundaries = m.boundaries := by
  unfold Mtu.edge
  split <;> simp [Mtu.anchor]

/-! ### The five commands that change a table -/

/-- A station leaves the table, the plan queue and its links with it (R85 steps 1 to 4). -/
def State.vacate (s : State) (n : StationIx) : State :=
  let s1 := s.setStation n { s.station n with member := none }
  let s2 := s1.setPlanner ((s1.planner.forget (downlink n)).forget (uplink n))
  (s2.freeLink (downlink n)).freeLink (uplink n)

theorem State.tearDown_eq (s : State) (n : StationIx) (f : Feed) :
    s.tearDown n f = ((s.vacate n).purgeNotices f n).abandonRemoved f n := rfl

/-- What a command other than DEVICE_RESET can make of the state: a run of changes, or a change of a table followed by
one. The port's own words have changed before the owner of a management command takes it. -/
inductive State.Progress (s t : State) : Prop
  | runs (h : s.Runs t)
  | configured (m : Mgp) (hm : m.events = s.mgp.events) (f : Feed) (offset beaconLen : Nat) (a : Byte)
      (bs : List Nat) (hremote : s.remoteMember f = false)
      (h : ((s.setMgp m).configure f offset beaconLen a bs).Runs t)
  | admitted (m : Mgp) (hm : m.events = s.mgp.events) (n : StationIx) (f : Feed) (a : Byte) (hn : 3 ≤ n.val)
      (hfree : (s.station n).member = none) (haddress : s.holderOf f a.toNat = none)
      (h : ((s.setMgp m).enterStation n f a).Runs t)
  | removed (m : Mgp) (hm : m.events = s.mgp.events) (n : StationIx) (x : Membership) (hn : 3 ≤ n.val)
      (hx : (s.station n).member = some x) (hrefs : (s.station n).refs = 0) (h : ((s.setMgp m).vacate n).Runs t)
  | created (m : Mgp) (hm : m.events = s.mgp.events) (n : StreamNo) (e : StreamEnds)
      (hcan : s.canStream e.transmitter e.receiver = true) (hfree : (s.stream n).state = .free)
      (h : ((s.setMgp m).createStream n e).Runs t)
  | deleted (m : Mgp) (hm : m.events = s.mgp.events) (n : StreamNo) (e : StreamEnds)
      (he : (s.stream n).state.ends = some e) (hrefs : (s.stream n).refs = 0)
      (h : ((((s.setMgp m).dropStation e.transmitter).dropStation e.receiver).setStream n ⟨.free, 0⟩).Runs t)

theorem State.Progress.then_runs {s t u : State} (h : s.Progress t) (k : t.Runs u) : s.Progress u := by
  cases h with
  | runs h => exact .runs (h.trans k)
  | configured m hm f offset beaconLen a bs hremote h => exact .configured m hm f offset beaconLen a bs hremote (h.trans k)
  | admitted m hm n f a hn hfree haddress h => exact .admitted m hm n f a hn hfree haddress (h.trans k)
  | removed m hm n x hn hx hrefs h => exact .removed m hm n x hn hx hrefs (h.trans k)
  | created m hm n e hcan hfree h => exact .created m hm n e hcan hfree (h.trans k)
  | deleted m hm n e he hrefs h => exact .deleted m hm n e he hrefs (h.trans k)

theorem State.liveLinks_live {s : State} {f : Feed} {l : LinkNo} (h : l ∈ s.liveLinks f) : ∃ k, s.link l = some k := by
  simp only [State.liveLinks, List.mem_filter, State.liveOn] at h
  obtain ⟨-, h⟩ := h
  split at h
  · exact ⟨_, ‹_›⟩
  · cases h

/-- Urgent offers for LIVE links, one after the other. -/
theorem State.Runs.offersUrgent {s : State} {ls : List LinkNo} (h : ∀ l ∈ ls, ∃ k, s.link l = some k) {cause : Cause}
    (hc : cause ≠ .plan) : s.Runs (s.forEach ls fun t l => t.offerUrgent l cause) := by
  induction ls generalizing s with
  | nil => exact .rfl' s
  | cons l rest ih =>
    obtain ⟨k, hk⟩ := h l (by simp)
    exact (Runs.urgentOffered s l k cause hk hc).trans (ih fun m hm => h m (by simp [hm]))

theorem State.activate_runs (s : State) (f : Feed) (n : Nat) : s.Runs (s.activate f n).1 := by
  have counted : s.Runs (s.countBank (s.csq.get f).pendingBank) := .quiet (.countBank ..)
  simp only [State.activate]
  split
  · exact counted.trans (.exchangeRoles ..)
  · exact counted.trans (.setCsq ..)

/-- The owner of a management command, in the state with the port's own words changed. -/
theorem State.OwnerEffect.progress {s t : State} {m : Mgp} (hm : m.events = s.mgp.events)
    (h : (s.setMgp m).OwnerEffect t) : s.Progress t := by
  have port : s.Runs (s.setMgp m) := .quiet (.setMgp hm)
  cases h with
  | same => exact .runs port
  | configured f offset beaconLen a bs hstop hremote =>
    exact .configured m hm f offset beaconLen a bs hremote (.rfl' _)
  | notched f mask =>
    refine .runs ((port.trans (.quiet (.setNotch ..))).trans (.offersUrgent (fun l hl => ?_) nofun))
    exact State.liveLinks_live hl
  | started f => exact .runs (port.trans (.enterSeq ..))
  | stopped f => exact .runs ((port.trans (.endPlayback ..)).trans (.enterSeq ..))
  | restarted f => exact .runs (((port.trans (.restartSeq ..)).trans (.restartMains ..)).trans (.flushLink ..))
  | edited f b => exact .runs (port.trans (.setCsq ..))
  | activated f n => exact .runs (port.trans (State.activate_runs ..))
  | cancelled f => exact .runs (port.trans (.quiet (.cancelPending ..)))
  | admitted n f a hn hfree haddress => exact .admitted m hm n f a hn hfree haddress (.rfl' _)
  | removed n x hn hx hrefs =>
    rw [State.tearDown_eq]
    exact .removed m hm n x hn hx hrefs ((Runs.purged _ _ n).trans (.abandonRemoved ..))
  | created n e hcan hfree => exact .created m hm n e hcan hfree (.rfl' _)
  | deleted n e he hrefs => exact .deleted m hm n e he hrefs (.rfl' _)
  | linkSet l k margin threshold hk => exact .runs (port.trans (.recorded _ l k _ hk ⟨rfl, rfl, rfl⟩ rfl))
  | planned l k hk => exact .runs (port.trans (.planOffered _ l k hk))
  | eventTaken e rest he => exact .runs (port.trans (.eventTaken _ e rest he))
  | masked mask => exact .runs (port.trans (.quiet (.setMgp rfl)))

/-! ### The slot of a CLC stays empty -/

@[simp] theorem Clc.setBuffer_slot (c : Clc) (b : BufNo) (x : Buffer) : (c.setBuffer b x).slot = c.slot := by
  cases b <;> rfl

@[simp] theorem Clc.startReport_slot (c : Clc) (b : BufNo) (r : Report) (gap : Nat) :
    (c.startReport b r gap).slot = c.slot := by simp [Clc.startReport]

@[simp] theorem Clc.closeReport_slot (c : Clc) (next : ReportState) : (c.closeReport next).slot = c.slot := by
  unfold Clc.closeReport
  split <;> simp

theorem State.offerGeneral_slot_none {s : State} {f : Feed} (h : (s.clc.get f).slot = none) (g : Feed)
    (n : GeneralNotice) : ((s.offerGeneral g n).clc.get f).slot = none := by
  obtain ⟨d, heq, hoffered, -⟩ := s.offerGeneral_spec g n
  rw [heq, State.setClc_clc, PerFeed.get_set]
  split
  · rename_i hfg
    exact hoffered.slot_none (hfg ▸ h)
  · exact h

theorem State.tallyReport_slot_none {s : State} {f : Feed} (h : (s.clc.get f).slot = none) (l : LinkNo) (k : Link)
    (zone ok failed : Nat) : ((s.tallyReport l k zone ok failed).clc.get f).slot = none := by
  simp only [State.tallyReport]
  split
  · simp only [State.evaluate]
    split
    · simpa using h
    · simpa [State.announceGrade] using State.offerGeneral_slot_none (by simpa using h) _ _
  · simpa using h

/-- The owner of a frame that finds the slot empty. -/
theorem State.FrameEffect.runs {s t : State} {f : Feed} (h : s.FrameEffect f t) (hslot : (s.clc.get f).slot = none) :
    s.Runs t := by
  cases h with
  | answered tag r hr => exact .respond hslot tag hr
  | told tag a r hr => exact (Runs.respond hslot tag hr).trans (.event ..)
  | fetched tag l k version zone named hk hf hv hz =>
    exact (Runs.fetched s f tag l k version zone named hslot hk hf hv hz).trans (.chose ..)
  | delivered tag l k zone ok failed r hr hk hf =>
    have tallied := Runs.tallyReport hk zone ok failed
    exact tallied.trans (.respond (State.tallyReport_slot_none hslot ..) tag hr)
  | idled tag r hr hnot => exact (Runs.reportIdled s f hnot).trans (.respond (by simpa [State.reportIdled]) tag hr)
  | opened tag b r gap hnot hfree =>
    exact (Runs.reportOpened s f b r gap hnot hfree).trans (.respond (by simpa using hslot) tag nofun)
  | extended tag b r r' gap ho =>
    exact (Runs.reportExtended s f b r r' gap ho).trans (.respond (by simpa using hslot) tag nofun)
  | closed tag b r r' ho =>
    exact (Runs.reportFilled s f b r r' ho).trans (.respond (by simpa using hslot) tag nofun)
  | abandoned tag b r code ho =>
    have refused := Runs.respond (s := s.setClc f ((s.clc.get f).closeReport .idle)) (f := f) (by simpa using hslot) tag
      (r := .refused code) nofun
    exact ((Runs.reportEnded s f .idle nofun).trans refused).trans (.general ..)
  | aborted tag => exact (Runs.reportEnded s f .idle nofun).trans (.respond (by simpa using hslot) tag nofun)

theorem State.Received.runs {s u : State} {f : Feed} (h : s.Received u f) : s.Runs u := by
  obtain ⟨link, receiver, dropped, events, rfl | rfl, rfl⟩ := h
  · exact .lined s f link receiver (s.clc.get f).transmitter dropped
  · exact (Runs.lined s f link receiver (s.clc.get f).transmitter dropped).trans (.event ..)

@[simp] theorem Planner.offerNormal_engine (p : Planner) (l : LinkNo) : (p.offerNormal l).engine = p.engine := by
  unfold Planner.offerNormal
  split <;> rfl

@[simp] theorem Planner.offerUrgent_engine (p : Planner) (l : LinkNo) (c : Cause) :
    (p.offerUrgent l c).engine = p.engine := by
  unfold Planner.offerUrgent
  split <;> rfl

@[simp] theorem State.endFold_engine (s : State) (r : Report) : (s.endFold r).planner.engine = s.planner.engine := by
  simp only [State.endFold, State.foldReport]
  (repeat' split) <;> simp [State.offerPlan]

theorem State.Effect.progress {s t : State} (h : s.Effect t) : s.Progress t := by
  cases h with
  | same => exact .runs (.rfl' s)
  | port t h =>
    cases h with
    | words m hm => exact .runs (.quiet (.setMgp hm))
    | managed m n u hm hu hn => exact (hu.progress hm).then_runs (.quiet (.setMgp hn))
  | mains f m order hm =>
    refine .runs (.mainsBecomes ?_ order)
    obtain ⟨p, rfl⟩ | rfl | ⟨-, rfl⟩ := hm <;> simp
  | origin f order o => 
    have reached : s.Runs (s.setMtu f ((s.mtu.get f).originReached o)) := .quiet (.setMtu rfl)
    exact .runs (reached.trans (.takeOrigin _ f _ order))
  | zonePassed f rest => exact .runs (.quiet (.setMtu rfl))
  | zoneTold f rest zone phase => 
    have passed : s.Runs (s.setMtu f { s.mtu.get f with zonesDue := rest }) := .quiet (.setMtu rfl)
    exact .runs (passed.trans (.timing ..))
  | windowStart f i => exact .runs (.startWindow s f i)
  | switchEnd => exact .runs (.endSwitch s)
  | received f u h => exact .runs h.runs
  | frame f u t h hslot ht => exact .runs (h.runs.trans (ht.runs hslot))
  | lost f =>
    have down : s.Runs (s.setClc f { s.clc.get f with link := .down, receiver := .waiting }) :=
      .lined s f .down .waiting (s.clc.get f).transmitter (s.clc.get f).dropped
    exact .runs ((down.trans (.flushLink ..)).trans (.event ..))
  | gapTold f b r => exact .runs ((Runs.reportEnded s f .idle nofun).trans (.general ..))
  | gapClosed f => exact .runs (.reportEnded s f .idle nofun)
  | responseEnded f order => exact .runs (.endResponse s f order)
  | noticeEnded f =>
    have ended : s.Runs (s.setClc f ((s.clc.get f).ended s.now)) :=
      .lined s f (s.clc.get f).link (s.clc.get f).receiver _ (s.clc.get f).dropped
    exact .runs (ended.trans (.chose ..))
  | foldTaken r rest hidle hq => exact .runs (.foldTaken s r rest hidle hq)
  | folded b u hb hu =>
    obtain rfl | ⟨r, -, rfl⟩ := hu
    · exact .runs (.foldEnded _ b hb)
    · exact .runs ((Runs.endFold s r).trans (.foldEnded _ b (by simpa using hb)))
  | planTaken e rest hidle hnext => exact .runs (.planTaken s e rest hidle hnext)
  | planWaits job zones hjob => exact .runs (.planWaits s job zones hjob)
  | planDone job zones hjob => exact .runs (.completePlan (by rw [hjob]; rfl))

end Sys2Proof.Machine
end

section
/-! Chapter 5, the tables of stations and links: what a run of changes leaves of them, what the five commands that change
a table make of them, and the invariant of R77 to R80 (O8). -/
namespace Sys2Proof.Machine

/-! ### Links and their stations (R79) -/

theorem linkStation_eq_iff {l : LinkNo} {n : StationIx} : linkStation l = n ↔ l = downlink n ∨ l = uplink n := by
  simp only [linkStation, downlink, uplink, Fin.ext_iff]
  omega

@[simp] theorem linkStation_downlink (n : StationIx) : linkStation (downlink n) = n := linkStation_eq_iff.2 (.inl rfl)

@[simp] theorem linkStation_uplink (n : StationIx) : linkStation (uplink n) = n := linkStation_eq_iff.2 (.inr rfl)

theorem downlink_ne_uplink (n : StationIx) : downlink n ≠ uplink n := by
  simp [downlink, uplink, Fin.ext_iff]

theorem six_le_downlink {n : StationIx} (h : 3 ≤ n.val) : 6 ≤ (downlink n).val := by simp [downlink]; omega

theorem six_le_uplink {n : StationIx} (h : 3 ≤ n.val) : 6 ≤ (uplink n).val := by simp [uplink]; omega

theorem localStation_lt (f : Feed) : (localStation f).val < 3 := by cases f <;> decide

theorem localStation_inj {f g : Feed} (h : localStation f = localStation g) : f = g := by
  cases f <;> cases g <;> simp_all [localStation]

theorem exists_localStation {n : StationIx} (h : n.val < 3) : ∃ f, n = localStation f := by
  obtain h | h | h : n.val = 0 ∨ n.val = 1 ∨ n.val = 2 := by omega
  · exact ⟨.a, Fin.ext h⟩
  · exact ⟨.b, Fin.ext h⟩
  · exact ⟨.c, Fin.ext h⟩

/-! ### A table after a write to it -/

theorem State.link_setLink (s : State) {l : LinkNo} (hl : 6 ≤ l.val) (m : LinkNo) (x : Option Link) :
    (s.setLink l x).link m = if m = l then x else s.link m := by
  split
  · rename_i h
    rw [h, State.link_setLink_self s hl]
  · rename_i h
    exact State.link_setLink_of_ne s h x

theorem State.station_setStation (s : State) (n m : StationIx) (x : Station) :
    (s.setStation n x).station m = if m = n then x else s.station m := by
  split
  · rename_i h
    rw [h, State.station_setStation_self]
  · rename_i h
    exact State.station_setStation_of_ne s h x

theorem State.stream_setStream (s : State) (n m : StreamNo) (x : Stream) :
    (s.setStream n x).stream m = if m = n then x else s.stream m := by
  split
  · rename_i h
    rw [h, State.stream_setStream_self]
  · rename_i h
    exact State.stream_setStream_of_ne s h x

/-! ### What a run of changes leaves of the tables -/

/-- The feed and the generation of a link. -/
def Link.owner (k : Link) : Feed × Byte := (k.record.feed, k.record.generation)

/-- The members and generations of the stations, the number of zones of each feed, and the LIVE links with their feeds
and generations are as they were. -/
structure State.SameTables (s t : State) : Prop where
  member : ∀ n, (t.station n).member = (s.station n).member
  generation : ∀ n, (t.station n).generation = (s.station n).generation
  zones : ∀ f, t.zoneCount f = s.zoneCount f
  live : ∀ l, (t.link l).map Link.owner = (s.link l).map Link.owner

namespace State.SameTables

variable {s t : State}

theorem trans {u : State} (h : s.SameTables t) (k : t.SameTables u) : s.SameTables u :=
  ⟨fun n => (k.member n).trans (h.member n), fun n => (k.generation n).trans (h.generation n),
    fun f => (k.zones f).trans (h.zones f), fun l => (k.live l).trans (h.live l)⟩

/-- With the stations, boundary lists and links as they were. -/
theorem of_eq (hs : t.stations = s.stations) (hm : t.mtu = s.mtu) (hl : t.links = s.links) : s.SameTables t :=
  ⟨fun n => by rw [State.station_congr hs], fun n => by rw [State.station_congr hs],
    fun f => by rw [State.zoneCount, State.zoneCount, hm], fun l => by rw [State.link_congr hl]⟩

theorem quiet (h : s.Quiet t) : s.SameTables t :=
  ⟨h.member, h.generation, fun f => by rw [State.zoneCount, State.zoneCount, h.boundaries],
    fun l => by rw [State.link_congr h.links]⟩

/-- A LIVE link that keeps its feed and generation. -/
theorem setLink {l : LinkNo} {k k' : Link} (hk : s.link l = some k) (hown : k'.owner = k.owner) :
    s.SameTables (s.setLink l (some k')) where
  member _ := rfl
  generation _ := rfl
  zones _ := rfl
  live m := by
    rw [State.link_setLink s (State.six_le_of_link hk)]
    split
    · rename_i h
      rw [h, hk, Option.map_some, Option.map_some, hown]
    · rfl

theorem takePlan (s : State) (e : PlanEntry) (rest : Planner) : s.SameTables (s.takePlan e rest) := by
  unfold State.takePlan
  split
  · exact .of_eq rfl rfl rfl
  · rename_i k hk
    have reset : s.SameTables (s.setLink e.link (some k.resetSincePlan)) := .setLink hk rfl
    exact reset.trans (.of_eq rfl rfl rfl)

end State.SameTables

theorem State.Runs.sameTables {s t : State} (h : s.Runs t) : s.SameTables t := by
  induction h with
  | trans h k ih ik => exact ih.trans ik
  | quiet h => exact .quiet h
  | foldWritten s l k zone r hk => exact .setLink hk rfl
  | planTaken s e rest => exact .takePlan s e rest
  | planPublished s job zones k hjob hk hp =>
    have idle : s.SameTables (s.setPlanner { s.planner with engine := .idle }) := .of_eq rfl rfl rfl
    exact idle.trans (.setLink (k := k) hk rfl)
  | recorded s l k r hk hr hg => exact .setLink hk (by simp [Link.owner, hr.feed, hr.generation])
  | regraded s l k r hk hr hg =>
    have recorded : s.SameTables (s.setRecord l k r) := .setLink hk (by simp [Link.owner, hr.feed, hr.generation])
    exact recorded.trans (.of_eq (by simp) (by simp) (by simp))
  | counted s l k n hk => exact .setLink hk rfl
  | switched s l k n hk hn =>
    have switched : s.SameTables (s.setLink l (some (k.switch n))) := .setLink hk rfl
    exact switched.trans (.of_eq rfl rfl rfl)
  | reportIdled => exact .of_eq rfl rfl rfl
  | _ => exact .of_eq (by simp) (by simp) (by simp)

/-! ### The five commands -/

theorem State.configure_stations (s : State) (f : Feed) (offset beaconLen : Nat) (a : Byte) (bs : List Nat)
    (n : StationIx) : ((s.configure f offset beaconLen a bs).station n).member =
      if n = localStation f then some ⟨f, a⟩ else (s.station n).member := by
  have hkept := (State.Quiet.cancelPending s f).member n
  simp only [State.configure, State.station_setStation]
  split
  · rfl
  · exact hkept

theorem State.configure_generation (s : State) (f : Feed) (offset beaconLen : Nat) (a : Byte) (bs : List Nat)
    (n : StationIx) : ((s.configure f offset beaconLen a bs).station n).generation = (s.station n).generation := by
  have hkept := (State.Quiet.cancelPending s f).generation n
  simp only [State.configure, State.station_setStation]
  split
  · rename_i h
    rw [← h]
    exact hkept
  · exact hkept

theorem State.configure_link (s : State) (f : Feed) (offset beaconLen : Nat) (a : Byte) (bs : List Nat) (l : LinkNo) :
    (s.configure f offset beaconLen a bs).link l = s.link l := State.link_congr (by simp) l

theorem State.enterStation_station (s : State) (n : StationIx) (f : Feed) (a : Byte) (m : StationIx) :
    (s.enterStation n f a).station m = if m = n then ⟨some ⟨f, a⟩, (s.station n).generation + 1, 0⟩ else s.station m := by
  rw [← State.station_setStation]
  exact State.station_congr rfl m

theorem State.enterStation_link (s : State) {n : StationIx} (hn : 3 ≤ n.val) (f : Feed) (a : Byte) (l : LinkNo) :
    (s.enterStation n f a).link l =
      if linkStation l = n then some (newLink f ((s.station n).generation + 1) (s.zoneCount f) (s.notch.get f))
      else s.link l := by
  simp only [State.enterStation, State.link_setLink _ (six_le_downlink hn), State.link_setLink _ (six_le_uplink hn),
    linkStation_eq_iff]
  by_cases hd : l = downlink n
  · simp [hd]
  · by_cases hu : l = uplink n
    · simp [hu]
    · simp only [hd, hu, or_self, if_false]
      exact State.link_congr rfl l

theorem State.freeLink_link (s : State) {l : LinkNo} (hl : 6 ≤ l.val) (m : LinkNo) :
    (s.freeLink l).link m = if m = l then none else s.link m := by
  unfold State.freeLink
  split
  · rename_i hnone
    split
    · rename_i h
      rw [h, hnone]
    · rfl
  · rw [← State.link_setLink s hl]
    exact State.link_congr rfl m

theorem State.vacate_link (s : State) {n : StationIx} (hn : 3 ≤ n.val) (l : LinkNo) :
    (s.vacate n).link l = if linkStation l = n then none else s.link l := by
  simp only [State.vacate, State.freeLink_link _ (six_le_downlink hn), State.freeLink_link _ (six_le_uplink hn),
    linkStation_eq_iff]
  by_cases hd : l = downlink n
  · simp [hd]
  · by_cases hu : l = uplink n
    · simp [hu]
    · simp only [hd, hu, or_self, if_false]
      exact State.link_congr rfl l

@[simp] theorem State.vacate_stations (s : State) (n : StationIx) :
    (s.vacate n).stations = (s.setStation n { s.station n with member := none }).stations := by
  simp [State.vacate]

theorem State.vacate_station (s : State) (n m : StationIx) :
    (s.vacate n).station m = if m = n then { s.station n with member := none } else s.station m := by
  rw [← State.station_setStation]
  exact State.station_congr (by simp) m

/-! ### R77 to R80 -/

/-- The three invariants of the tables. -/
def State.TablesSound (s : State) : Prop := s.LocalsPresent ∧ s.LinksMatchStations ∧ s.AddressesDistinct

theorem State.LocalsPresent.member {s : State} (h : s.LocalsPresent) (f : Feed) :
    ∃ a, (s.station (localStation f)).member = some ⟨f, a⟩ := by
  have hf := h f
  simp only [Option.map_eq_some_iff] at hf
  obtain ⟨⟨g, a⟩, hm, rfl⟩ := hf
  exact ⟨a, hm⟩

/-- A LIVE link is that of a MEMBER station, and a FREE one that of a FREE entry (R79). -/
theorem State.linksMatch_iff {s : State} :
    s.LinksMatchStations ↔ ∀ l : LinkNo, 6 ≤ l.val →
      (s.link l).map Link.owner =
        (s.station (linkStation l)).member.map fun m => (m.feed, (s.station (linkStation l)).generation) := by
  refine forall₂_congr fun l _ => ?_
  cases s.link l <;> cases (s.station (linkStation l)).member <;> simp [Link.owner]

theorem State.SameTables.linksMatch {s t : State} (h : s.SameTables t) (hs : s.LinksMatchStations) :
    t.LinksMatchStations := by
  rw [State.linksMatch_iff] at hs ⊢
  intro l hl
  rw [h.live, h.member, h.generation]
  exact hs l hl

theorem State.SameTables.localsPresent {s t : State} (h : s.SameTables t) (hs : s.LocalsPresent) : t.LocalsPresent :=
  fun f => by
    rw [h.member]
    exact hs f

theorem State.SameTables.tablesSound {s t : State} (h : s.SameTables t) (hs : s.TablesSound) : t.TablesSound := by
  obtain ⟨hlocal, hlinks, haddr⟩ := hs
  refine ⟨h.localsPresent hlocal, h.linksMatch hlinks, fun n m f a hn hm => ?_⟩
  rw [h.member] at hn hm
  exact haddr n m f a hn hm

theorem State.LocalsPresent.configure {s : State} (h : s.LocalsPresent) (f : Feed) (offset beaconLen : Nat) (a : Byte)
    (bs : List Nat) : (s.configure f offset beaconLen a bs).LocalsPresent := fun g => by
  rw [State.configure_stations]
  split
  · rename_i hg
    rw [localStation_inj hg]
    rfl
  · exact h g

/-- The stations of a feed without a remote MEMBER: its local station alone. -/
theorem State.LocalsPresent.eq_local {s : State} (h : s.LocalsPresent) {f : Feed} (hremote : s.remoteMember f = false)
    {n : StationIx} {m : Membership} (hm : (s.station n).member = some m) (hf : m.feed = f) : n = localStation f := by
  by_cases hn : n.val < 3
  · obtain ⟨g, rfl⟩ := exists_localStation hn
    obtain ⟨a, ha⟩ := h.member g
    cases ha.symm.trans hm
    rw [← hf]
  · simp only [State.remoteMember, List.any_eq_false, List.mem_finRange, Bool.and_eq_true, decide_eq_true_eq,
      true_implies] at hremote
    exact absurd ⟨by omega, by simp [State.memberOn, hm, hf]⟩ (hremote n)

theorem State.TablesSound.configure {s : State} (h : s.TablesSound) {f : Feed} (hremote : s.remoteMember f = false)
    (offset beaconLen : Nat) (a : Byte) (bs : List Nat) : (s.configure f offset beaconLen a bs).TablesSound := by
  obtain ⟨hlocal, hlinks, haddr⟩ := h
  refine ⟨hlocal.configure f offset beaconLen a bs, ?_, fun n m g b hn hm => ?_⟩
  · rw [State.linksMatch_iff] at hlinks ⊢
    intro l hl
    have hne : linkStation l ≠ localStation f := fun he => by
      have hlt := localStation_lt f
      rw [← he, linkStation] at hlt
      simp only at hlt
      omega
    rw [State.configure_link, State.configure_stations, State.configure_generation, if_neg hne]
    exact hlinks l hl
  · have only : ∀ x, ((s.configure f offset beaconLen a bs).station x).member = some ⟨g, b⟩ → g = f →
        x = localStation f := fun x hx hg => by
      rw [State.configure_stations] at hx
      split at hx
      · assumption
      · exact hlocal.eq_local hremote hx hg
    by_cases hg : g = f
    · rw [only n hn hg, only m hm hg]
    · rw [State.configure_stations] at hn hm
      split at hn
      · cases hn
        exact absurd rfl hg
      · split at hm
        · cases hm
          exact absurd rfl hg
        · exact haddr n m g b hn hm

theorem State.holderOf_eq_none {s : State} {f : Feed} {a : Byte} (h : s.holderOf f a.toNat = none) (n : StationIx) :
    (s.station n).member ≠ some ⟨f, a⟩ := fun hm => by
  simpa [hm] using List.find?_eq_none.1 h n (List.mem_finRange n)

theorem State.TablesSound.admission {s : State} (h : s.TablesSound) {n : StationIx} (hn : 3 ≤ n.val) {f : Feed} {a : Byte}
    (haddress : s.holderOf f a.toNat = none) : (s.enterStation n f a).TablesSound := by
  obtain ⟨hlocal, hlinks, haddr⟩ := h
  refine ⟨fun g => ?_, ?_, fun x y g b hx hy => ?_⟩
  · have hne : localStation g ≠ n := fun he => by
      have := localStation_lt g
      rw [he] at this
      omega
    rw [State.enterStation_station, if_neg hne]
    exact hlocal g
  · rw [State.linksMatch_iff] at hlinks ⊢
    intro l hl
    rw [State.enterStation_link s hn, State.enterStation_station]
    split
    · rfl
    · exact hlinks l hl
  · rw [State.enterStation_station] at hx hy
    split at hx <;> split at hy
    · rename_i hxn hyn
      exact hxn.trans hyn.symm
    · cases hx
      exact absurd hy (State.holderOf_eq_none haddress y)
    · cases hy
      exact absurd hx (State.holderOf_eq_none haddress x)
    · exact haddr x y g b hx hy

theorem State.TablesSound.vacate {s : State} (h : s.TablesSound) {n : StationIx} (hn : 3 ≤ n.val) :
    (s.vacate n).TablesSound := by
  obtain ⟨hlocal, hlinks, haddr⟩ := h
  refine ⟨fun g => ?_, ?_, fun x y g b hx hy => ?_⟩
  · have hne : localStation g ≠ n := fun he => by
      have := localStation_lt g
      rw [he] at this
      omega
    rw [State.vacate_station, if_neg hne]
    exact hlocal g
  · rw [State.linksMatch_iff] at hlinks ⊢
    intro l hl
    rw [State.vacate_link s hn, State.vacate_station]
    split
    · rfl
    · exact hlinks l hl
  · rw [State.vacate_station] at hx hy
    split at hx
    · cases hx
    · split at hy
      · cases hy
      · exact haddr x y g b hx hy

/-- Two quiet changes of a station's count, and a stream record. -/
theorem State.SameTables.createStream (s : State) (n : StreamNo) (e : StreamEnds) :
    s.SameTables (s.createStream n e) := by
  have made : s.SameTables (s.setStream n ⟨s.newStreamState e, 0⟩) := .of_eq rfl rfl rfl
  exact made.trans (.quiet ((State.Quiet.setRefs ..).trans (.setRefs ..)))

theorem State.SameTables.deleteStream (s : State) (n : StreamNo) (e : StreamEnds) :
    s.SameTables (((s.dropStation e.transmitter).dropStation e.receiver).setStream n ⟨.free, 0⟩) := by
  have dropped : s.SameTables ((s.dropStation e.transmitter).dropStation e.receiver) :=
    .quiet ((State.Quiet.setRefs ..).trans (.setRefs ..))
  exact dropped.trans (.of_eq rfl rfl rfl)

theorem State.Effect.tablesSound {s t : State} (hs : s.TablesSound) (h : s.Effect t) : t.TablesSound := by
  cases h.progress with
  | runs h => exact h.sameTables.tablesSound hs
  | configured m hm f offset beaconLen a bs hremote h =>
    have hsound : (s.setMgp m).TablesSound := hs
    exact h.sameTables.tablesSound (hsound.configure hremote offset beaconLen a bs)
  | admitted m hm n f a hn hfree haddress h =>
    have hsound : (s.setMgp m).TablesSound := hs
    exact h.sameTables.tablesSound (hsound.admission hn haddress)
  | removed m hm n x hn hx hrefs h =>
    have hsound : (s.setMgp m).TablesSound := hs
    exact h.sameTables.tablesSound (hsound.vacate hn)
  | created m hm n e hcan hfree h =>
    exact ((State.SameTables.createStream (s.setMgp m) n e).trans h.sameTables).tablesSound hs
  | deleted m hm n e he hrefs h =>
    exact ((State.SameTables.deleteStream (s.setMgp m) n e).trans h.sameTables).tablesSound hs

/-! ### After reset -/

theorem State.reset_localsPresent : State.reset.LocalsPresent := fun f => by cases f <;> decide

theorem State.reset_link (l : LinkNo) : State.reset.link l = none := by
  simp [State.link, State.reset]

theorem State.reset_station_remote {n : StationIx} (hn : 3 ≤ n.val) : State.reset.station n = ⟨none, 0, 0⟩ := by
  have h0 : (0 : Nat) ≠ n.val := by omega
  have h1 : (1 : Nat) ≠ n.val := by omega
  have h2 : (2 : Nat) ≠ n.val := by omega
  simp [State.station, State.reset, stationsReset, h0, h1, h2]

theorem State.reset_tablesSound : State.reset.TablesSound := by
  refine ⟨State.reset_localsPresent, ?_, fun n m f a hn hm => ?_⟩
  · rw [State.linksMatch_iff]
    intro l hl
    have hn : 3 ≤ (linkStation l).val := by simp only [linkStation]; omega
    rw [State.reset_link, State.reset_station_remote hn]
    rfl
  · have low : ∀ x : StationIx, (State.reset.station x).member = some ⟨f, a⟩ → x = localStation f := fun x hx => by
      by_cases hlt : x.val < 3
      · obtain ⟨g, rfl⟩ := exists_localStation hlt
        obtain ⟨b, hb⟩ := State.reset_localsPresent.member g
        cases hb.symm.trans hx
        rfl
      · rw [State.reset_station_remote (by omega)] at hx
        cases hx
    rw [low n hn, low m hm]

/-- Settles O8: a run of changes keeps the tables, and admission, removal and configuration keep the three invariants
together. -/
theorem stepsKeepStationsAndLinksSound : Obligations.StepsKeepStationsAndLinksSound := fun _ _ hs h =>
  step_keeps (P := State.TablesSound) State.reset_tablesSound (fun _ _ _ _ hs => hs)
    (fun _ _ hs he => he.tablesSound hs) hs h

end Sys2Proof.Machine
end

section
/-! Section 5.7, the streams and the grades of their links: the invariant of R93 (O10). -/
namespace Sys2Proof.Machine

/-- The state of a stream agrees with which links are UNREACHABLE (R93). -/
def StreamState.Fits (x : StreamState) (unreachable : LinkNo → Bool) : Prop :=
  match x with
  | .free => True
  | .active e => e.link.any unreachable = false
  | .suspended e => e.link.any unreachable = true

theorem State.streamsFollow_iff {s : State} :
    s.StreamsFollowGrades ↔ ∀ n, (s.stream n).state.Fits s.unreachable := by
  refine forall_congr' fun n => ?_
  cases (s.stream n).state <;> simp [StreamState.Fits, StreamState.ends]

/-- The states of the streams, and which links are UNREACHABLE, are as they were. -/
structure State.SameGrades (s t : State) : Prop where
  stream : ∀ n, (t.stream n).state = (s.stream n).state
  unreachable : ∀ l, t.unreachable l = s.unreachable l

namespace State.SameGrades

variable {s t : State}

theorem trans {u : State} (h : s.SameGrades t) (k : t.SameGrades u) : s.SameGrades u :=
  ⟨fun n => (k.stream n).trans (h.stream n), fun l => (k.unreachable l).trans (h.unreachable l)⟩

theorem follows (h : s.SameGrades t) (hs : s.StreamsFollowGrades) : t.StreamsFollowGrades := by
  rw [State.streamsFollow_iff] at hs ⊢
  intro n
  rw [h.stream, funext h.unreachable]
  exact hs n

theorem of_links (hn : ∀ n, (t.stream n).state = (s.stream n).state) (hl : t.links = s.links) : s.SameGrades t :=
  ⟨hn, fun l => by rw [State.unreachable, State.unreachable, State.link_congr hl]⟩

theorem of_eq (hs : t.streams = s.streams) (hl : t.links = s.links) : s.SameGrades t :=
  .of_links (fun n => by rw [State.stream_congr hs]) hl

/-- A LIVE link that keeps its grade. -/
theorem setLink {l : LinkNo} {k k' : Link} (hk : s.link l = some k) (hg : k'.record.grade = k.record.grade) :
    s.SameGrades (s.setLink l (some k')) where
  stream _ := rfl
  unreachable m := by
    rw [State.unreachable, State.unreachable, State.link_setLink s (State.six_le_of_link hk)]
    split
    · rename_i h
      rw [h, hk, Option.any_some, Option.any_some, hg]
    · rfl

theorem takePlan (s : State) (e : PlanEntry) (rest : Planner) : s.SameGrades (s.takePlan e rest) := by
  unfold State.takePlan
  split
  · exact .of_eq rfl rfl
  · rename_i k hk
    have reset : s.SameGrades (s.setLink e.link (some k.resetSincePlan)) := .setLink hk rfl
    exact reset.trans (.of_eq rfl rfl)

end State.SameGrades

/-- A grade change taken by the streams of its link (R93). -/
theorem State.StreamsFollowGrades.regraded {s : State} (hs : s.StreamsFollowGrades) {l : LinkNo} {k : Link}
    {r : LinkRecord} (hk : s.link l = some k) (hg : r.grade ≠ k.record.grade) :
    ((s.setRecord l k r).streamsFollow l k.record.grade r.grade).StreamsFollowGrades := by
  rw [State.streamsFollow_iff] at hs ⊢
  have hreach : ∀ m, ((s.setRecord l k r).streamsFollow l k.record.grade r.grade).unreachable m =
      if m = l then decide (r.grade = .unreachable) else s.unreachable m := fun m => by
    rw [State.unreachable, State.link_congr (s := s.setRecord l k r) (by simp), State.setRecord,
      State.link_setLink s (State.six_le_of_link hk)]
    split <;> rfl
  have hold : s.unreachable l = decide (k.record.grade = .unreachable) := by
    rw [State.unreachable, hk, Option.any_some]
  intro n
  rw [funext hreach, State.stream_streamsFollow, State.stream_congr (s := s) (by simp)]
  have hn := hs n
  cases hstate : (s.stream n).state with
  | free =>
    rw [Stream.follow_state_of_free hstate]
    trivial
  | active e =>
    rw [Stream.follow_state_of_active hstate]
    rw [hstate] at hn
    obtain hlink | ⟨m, hlink⟩ := Option.eq_none_or_eq_some e.link
    · simp [StreamState.Fits, hlink]
    · simp only [StreamState.Fits, hlink, Option.any_some] at hn
      by_cases hm : m = l <;> by_cases hr : r.grade = .unreachable <;>
        simp [StreamState.Fits, hlink, hm, hr, hn]
  | suspended e =>
    rw [Stream.follow_state_of_suspended hstate l hg]
    rw [hstate] at hn
    obtain hlink | ⟨m, hlink⟩ := Option.eq_none_or_eq_some e.link
    · simp [StreamState.Fits, hlink] at hn
    · simp only [StreamState.Fits, hlink, Option.any_some] at hn
      by_cases hm : m = l
      · have hwas : k.record.grade = .unreachable := by
          rw [hm, hold] at hn
          simpa using hn
        have hnow : r.grade ≠ .unreachable := hwas ▸ hg
        rw [if_pos ⟨hwas, hm ▸ hlink⟩]
        simp [StreamState.Fits, hlink, hm, hnow]
      · simp [StreamState.Fits, hlink, hm, hn]

theorem State.Runs.streamsFollow {s t : State} (h : s.Runs t) (hs : s.StreamsFollowGrades) :
    t.StreamsFollowGrades := by
  induction h with
  | trans h k ih ik => exact ik (ih hs)
  | quiet h => exact (State.SameGrades.of_links h.stream h.links).follows hs
  | foldWritten s l k zone r hk => exact (State.SameGrades.setLink hk (by rfl)).follows hs
  | planTaken s e rest => exact (State.SameGrades.takePlan s e rest).follows hs
  | planPublished s job zones k hjob hk hp =>
    have idle : s.SameGrades (s.setPlanner { s.planner with engine := .idle }) := .of_eq rfl rfl
    have published : s.SameGrades _ := idle.trans
      (.setLink (k := k) (k' := k.publish zones job.grade job.cause) hk rfl)
    exact published.follows hs
  | recorded s l k r hk hr hg => exact (State.SameGrades.setLink hk hg).follows hs
  | regraded s l k r hk hr hg => exact hs.regraded hk hg
  | counted s l k n hk => exact (State.SameGrades.setLink hk (by rfl)).follows hs
  | switched s l k n hk hn =>
    have switched : s.SameGrades (s.setLink l (some (k.switch n))) := .setLink hk rfl
    exact (switched.trans (.of_eq rfl rfl)).follows hs
  | reportIdled => exact (State.SameGrades.of_eq rfl rfl).follows hs
  | _ => exact (State.SameGrades.of_eq (by simp) (by simp)).follows hs

/-! ### The five commands -/

theorem State.LinksMatchStations.link_none {s : State} (h : s.LinksMatchStations) {l : LinkNo}
    (hm : (s.station (linkStation l)).member = none) : s.link l = none := by
  by_cases hl : 6 ≤ l.val
  · have := State.linksMatch_iff.1 h l hl
    rw [hm] at this
    simpa using this
  · simp [State.link, show l.val < 6 by omega]

theorem StreamEnds.station_of_link {e : StreamEnds} {l : LinkNo} (h : e.link = some l) :
    linkStation l = e.transmitter ∨ linkStation l = e.receiver := by
  unfold StreamEnds.link at h
  split at h
  · cases h
    exact .inr (linkStation_downlink _)
  · cases h
    exact .inl (linkStation_uplink _)
  · cases h

/-- No stream names a station of count 0 (R81). -/
theorem State.ReferencesAgree.unused {s : State} (h : s.ReferencesAgree) {n : StationIx} (hn : (s.station n).refs = 0)
    {i : StreamNo} {e : StreamEnds} (he : (s.stream i).state.ends = some e) :
    e.transmitter ≠ n ∧ e.receiver ≠ n := by
  obtain ⟨-, hstation, -⟩ := h
  have hsum := hstation n
  rw [hn] at hsum
  have huses : s.streamUses n = 0 := by omega
  rw [State.streamUses, List.sum_eq_zero_iff] at huses
  have hi := huses _ (List.mem_map.2 ⟨i, List.mem_finRange i, rfl⟩)
  rw [he] at hi
  constructor <;> intro heq <;> simp [heq] at hi

theorem State.StreamsFollowGrades.vacate {s : State} (hs : s.StreamsFollowGrades) (href : s.ReferencesAgree)
    {n : StationIx} (hn : 3 ≤ n.val) (hrefs : (s.station n).refs = 0) : (s.vacate n).StreamsFollowGrades := by
  rw [State.streamsFollow_iff] at hs ⊢
  intro i
  have hstream : (s.vacate n).stream i = s.stream i := State.stream_congr (by simp [State.vacate]) i
  have hi := hs i
  have hreach : ∀ e, (s.stream i).state.ends = some e →
      e.link.any (s.vacate n).unreachable = e.link.any s.unreachable := fun e he => by
    obtain ⟨ht, hr⟩ := href.unused hrefs he
    cases hlink : e.link with
    | none => rfl
    | some l =>
      have hl : linkStation l ≠ n := fun hl => by
        obtain h | h := StreamEnds.station_of_link hlink
        · exact ht (h.symm.trans hl)
        · exact hr (h.symm.trans hl)
      rw [Option.any_some, Option.any_some, State.unreachable, State.vacate_link s hn, if_neg hl]
      rfl
  rw [hstream]
  cases hstate : (s.stream i).state with
  | free => trivial
  | active e => rw [hstate] at hi; exact (hreach e (by rw [hstate]; rfl)).trans hi
  | suspended e => rw [hstate] at hi; exact (hreach e (by rw [hstate]; rfl)).trans hi

theorem State.SameGrades.admission {s : State} (hlinks : s.LinksMatchStations) {n : StationIx} (hn : 3 ≤ n.val)
    (hfree : (s.station n).member = none) (f : Feed) (a : Byte) : s.SameGrades (s.enterStation n f a) where
  stream _ := by rw [State.stream_congr (s.enterStation_frame n f a).2.2.2.2.1]
  unreachable l := by
    rw [State.unreachable, State.unreachable, State.enterStation_link s hn]
    split
    · rename_i hl
      rw [hlinks.link_none (by rw [hl]; exact hfree)]
      rfl
    · rfl

theorem State.StreamsFollowGrades.setStream {s : State} (hs : s.StreamsFollowGrades) (n : StreamNo) {x : StreamState}
    {c : Nat} (hx : x.Fits s.unreachable) : (s.setStream n ⟨x, c⟩).StreamsFollowGrades := by
  rw [State.streamsFollow_iff] at hs ⊢
  intro m
  rw [State.stream_setStream]
  split
  · exact hx
  · exact hs m

theorem State.newStreamState_fits (s : State) (e : StreamEnds) : (s.newStreamState e).Fits s.unreachable := by
  unfold State.newStreamState
  split
  · assumption
  · rename_i h
    simpa [StreamState.Fits] using h

theorem State.Effect.streamsFollow {s t : State} (hlinks : s.LinksMatchStations) (href : s.ReferencesAgree)
    (hs : s.StreamsFollowGrades) (h : s.Effect t) : t.StreamsFollowGrades := by
  cases h.progress with
  | runs h => exact h.streamsFollow hs
  | configured m hm f offset beaconLen a bs hremote h =>
    refine h.streamsFollow (State.SameGrades.follows (.of_links (s := s) (fun n => ?_) (by simp)) hs)
    exact (State.Quiet.cancelPending (s.setMgp m) f).stream n
  | admitted m hm n f a hn hfree haddress h =>
    exact h.streamsFollow ((State.SameGrades.admission (s := s.setMgp m) hlinks hn hfree f a).follows hs)
  | removed m hm n x hn hx hrefs h =>
    have hset : (s.setMgp m).StreamsFollowGrades := hs
    exact h.streamsFollow (hset.vacate href hn hrefs)
  | created m hm n e hcan hfree h =>
    have hset : (s.setMgp m).StreamsFollowGrades := hs
    have hmade := hset.setStream n (c := 0) ((s.setMgp m).newStreamState_fits e)
    exact h.streamsFollow ((State.SameGrades.of_eq (by simp [State.createStream]) (by simp)).follows hmade)
  | deleted m hm n e he hrefs h =>
    have hset : (s.setMgp m).StreamsFollowGrades := hs
    have hdropped := (State.SameGrades.of_eq (t := ((s.setMgp m).dropStation e.transmitter).dropStation e.receiver)
      (by simp) (by simp)).follows hset
    exact h.streamsFollow (hdropped.setStream n (c := 0) trivial)

theorem State.reset_streamsFollow : State.reset.StreamsFollowGrades := by
  rw [State.streamsFollow_iff]
  intro n
  simp [State.stream, State.reset, StreamState.Fits]

/-- Settles O10: a grade changes together with the streams of its link, a new stream takes the state its link's grade
calls for, and no stream names a station that is removed. -/
theorem stepsKeepStreamsFollowingGrades : Obligations.StepsKeepStreamsFollowingGrades := by
  intro s t _ hlinks href hs h
  obtain ⟨p, n, rfl⟩ | rfl | ⟨p, n, he⟩ := step_cases h
  · exact State.reset_streamsFollow
  · exact hs
  · exact State.Effect.streamsFollow (s := { s with pending := p, choices := n }) hlinks href hs he

end Sys2Proof.Machine
end

section
/-! Section 7.1, the plan queue: the invariant of R118 (O15). -/
namespace Sys2Proof.Machine

/-- The entries of the plan queue, urgent class first. -/
def Planner.entries (p : Planner) : List PlanEntry := p.urgent ++ p.normal

/-- R118 at the Planner, of links for which `live` holds. -/
structure Planner.QueueSound (p : Planner) (live : LinkNo → Prop) : Prop where
  nodup : (p.entries.map (·.link)).Nodup
  live : ∀ e ∈ p.entries, live e.link
  urgent : ∀ e ∈ p.urgent, e.cause ≠ .plan
  normal : ∀ e ∈ p.normal, e.cause = .plan

/-- Whether a link is LIVE. -/
def State.isLive (s : State) (l : LinkNo) : Prop := (s.link l).isSome = true

theorem State.planQueueSound_iff {s : State} : s.PlanQueueSound ↔ s.planner.QueueSound s.isLive :=
  ⟨fun ⟨h1, h2, h3, h4⟩ => ⟨h1, h2, h3, h4⟩, fun ⟨h1, h2, h3, h4⟩ => ⟨h1, h2, h3, h4⟩⟩

namespace Planner.QueueSound

variable {p q : Planner} {live live' : LinkNo → Prop}

theorem congr (h : p.QueueSound live) (hu : q.urgent = p.urgent) (hn : q.normal = p.normal)
    (hl : ∀ l, live l → live' l) : q.QueueSound live' := by
  have he : q.entries = p.entries := by rw [entries, entries, hu, hn]
  exact ⟨he ▸ h.nodup, fun e hm => hl _ (h.live e (he ▸ hm)), hu ▸ h.urgent, hn ▸ h.normal⟩

/-- Entries taken out of both classes, of which the links left are live. -/
theorem sublist (h : p.QueueSound live) (hu : q.urgent.Sublist p.urgent) (hn : q.normal.Sublist p.normal)
    (hl : ∀ e ∈ q.entries, live e.link → live' e.link) : q.QueueSound live' := by
  have hs : q.entries.Sublist p.entries := hu.append hn
  exact ⟨h.nodup.sublist (hs.map _), fun e he => hl e he (h.live e (hs.subset he)), fun e he => h.urgent e (hu.subset he),
    fun e he => h.normal e (hn.subset he)⟩

theorem offerNormal (h : p.QueueSound live) {l : LinkNo} (hl : live l) : (p.offerNormal l).QueueSound live := by
  unfold Planner.offerNormal
  split
  · exact h
  · rename_i hq
    simp only [Planner.queued, Bool.or_eq_true, List.any_eq_true, decide_eq_true_eq, not_or, not_exists, not_and] at hq
    obtain ⟨hu, hn⟩ := hq
    have hfresh : l ∉ p.entries.map (·.link) := fun hm => by
      obtain ⟨e, he, rfl⟩ := List.mem_map.1 hm
      obtain he | he := List.mem_append.1 he
      · exact hu e he rfl
      · exact hn e he rfl
    refine ⟨?_, fun e he => ?_, h.urgent, fun e he => ?_⟩
    · simp only [entries, ← List.append_assoc]
      rw [List.map_append]
      exact List.nodup_append'.2 ⟨h.nodup, List.nodup_singleton _, List.disjoint_singleton.2 hfresh⟩
    · simp only [entries, ← List.append_assoc] at he
      obtain he | he := List.mem_append.1 he
      · exact h.live e he
      · cases List.mem_singleton.1 he
        exact hl
    · obtain he | he := List.mem_append.1 he
      · exact h.normal e he
      · cases List.mem_singleton.1 he
        rfl

theorem recause_link (e : PlanEntry) (l : LinkNo) (c : Cause) : (e.recause l c).link = e.link := by
  unfold PlanEntry.recause
  split <;> rfl

theorem recause_cause (e : PlanEntry) (l : LinkNo) (c : Cause) :
    (e.recause l c).cause = c ∨ (e.recause l c).cause = e.cause := by
  unfold PlanEntry.recause
  split
  · exact .inl rfl
  · exact .inr rfl

theorem offerUrgent (h : p.QueueSound live) {l : LinkNo} (hl : live l) {c : Cause} (hc : c ≠ .plan) :
    (p.offerUrgent l c).QueueSound live := by
  unfold Planner.offerUrgent
  split
  · have hmap : (p.urgent.map (·.recause l c)).map (·.link) = p.urgent.map (·.link) := by
      simp [Function.comp_def, recause_link]
    refine ⟨?_, fun e he => ?_, fun e he => ?_, h.normal⟩
    · have hnodup := h.nodup
      rw [entries, List.map_append] at hnodup ⊢
      rwa [hmap]
    · obtain he | he := List.mem_append.1 he
      · obtain ⟨e', he', rfl⟩ := List.mem_map.1 he
        rw [recause_link]
        exact h.live e' (List.mem_append_left _ he')
      · exact h.live e (List.mem_append_right _ he)
    · obtain ⟨e', he', rfl⟩ := List.mem_map.1 he
      obtain h' | h' := recause_cause e' l c
      · rw [h']
        exact hc
      · rw [h']
        exact h.urgent e' he'
  · rename_i hu
    simp only [List.any_eq_true, decide_eq_true_eq, not_exists, not_and] at hu
    have hsub : (p.urgent ++ p.normal.filter (·.link ≠ l)).Sublist p.entries :=
      (List.Sublist.refl _).append List.filter_sublist
    have hperm : List.Perm (p.urgent ++ [(⟨l, c⟩ : PlanEntry)] ++ p.normal.filter (·.link ≠ l))
        (⟨l, c⟩ :: (p.urgent ++ p.normal.filter (·.link ≠ l))) := by
      rw [List.append_assoc]
      exact List.perm_middle
    refine ⟨?_, fun e he => ?_, fun e he => ?_, fun e he => h.normal e (List.mem_of_mem_filter he)⟩
    · refine (hperm.map _).nodup_iff.2 (List.nodup_cons.2 ⟨fun hm => ?_, h.nodup.sublist (hsub.map _)⟩)
      obtain ⟨e, he, heq⟩ := List.mem_map.1 hm
      obtain he | he := List.mem_append.1 he
      · exact hu e he heq
      · simp only [List.mem_filter, decide_eq_true_eq] at he
        exact he.2 heq
    · obtain he | he := List.mem_cons.1 (hperm.mem_iff.1 he)
      · rw [he]
        exact hl
      · exact h.live e (hsub.subset he)
    · obtain he | he := List.mem_append.1 he
      · exact h.urgent e he
      · cases List.mem_singleton.1 he
        exact hc

end Planner.QueueSound

/-- The head of the plan queue leaves its class, and nothing else changes (R117). -/
theorem Planner.nextPlan_spec {p q : Planner} {e : PlanEntry} (h : p.nextPlan = some (e, q)) :
    q.engine = p.engine ∧ q.foldQueue = p.foldQueue ∧
      (p.urgent = e :: q.urgent ∧ q.normal = p.normal ∨
        p.urgent = [] ∧ q.urgent = [] ∧ p.normal = e :: q.normal) := by
  unfold Planner.nextPlan at h
  split at h
  · rename_i hu
    cases h
    exact ⟨rfl, rfl, .inl ⟨hu, rfl⟩⟩
  · rename_i hu hn
    cases h
    exact ⟨rfl, rfl, .inr ⟨hu, hu, hn⟩⟩
  · cases h

theorem State.SameTables.isLive {s t : State} (h : s.SameTables t) (l : LinkNo) (hl : s.isLive l) : t.isLive l := by
  have hlive := congrArg Option.isSome (h.live l)
  rw [Option.isSome_map, Option.isSome_map] at hlive
  exact hlive.trans hl

theorem State.isLive_of_link {s : State} {l : LinkNo} {k : Link} (hk : s.link l = some k) : s.isLive l := by
  simp [State.isLive, hk]

/-- The links that are LIVE, and the two classes of the plan queue, are as they were. -/
theorem State.PlanQueueSound.congr {s t : State} (hs : s.PlanQueueSound) (hl : s.SameTables t)
    (hu : t.planner.urgent = s.planner.urgent) (hn : t.planner.normal = s.planner.normal) : t.PlanQueueSound := by
  rw [State.planQueueSound_iff] at hs ⊢
  exact hs.congr hu hn hl.isLive

theorem State.PlanQueueSound.takePlan {s : State} (hs : s.PlanQueueSound) {e : PlanEntry} {rest : Planner}
    (hnext : s.planner.nextPlan = some (e, rest)) : (s.takePlan e rest).PlanQueueSound := by
  obtain ⟨-, -, hleft⟩ := Planner.nextPlan_spec hnext
  have hrest : rest.QueueSound s.isLive := by
    obtain ⟨hu, hn⟩ | ⟨-, hu, hn⟩ := hleft
    · exact (State.planQueueSound_iff.1 hs).sublist (by simp [hu]) (by simp [hn]) (fun _ _ h => h)
    · exact (State.planQueueSound_iff.1 hs).sublist (by simp [hu]) (by simp [hn]) (fun _ _ h => h)
  have hlive := (State.SameTables.takePlan s e rest).isLive
  rw [State.planQueueSound_iff]
  unfold State.takePlan at hlive ⊢
  split
  · exact hrest
  · rename_i k hk
    rw [hk] at hlive
    refine hrest.congr ?_ ?_ hlive <;> (simp only [State.setPlanner_planner]; split <;> rfl)

theorem State.Runs.planQueueSound {s t : State} (h : s.Runs t) (hs : s.PlanQueueSound) : t.PlanQueueSound := by
  induction h with
  | trans h k ih ik => exact ik (ih hs)
  | quiet h => exact hs.congr (.quiet h) (by rw [h.planner]) (by rw [h.planner])
  | foldWritten s l k zone r hk => exact hs.congr (.setLink hk rfl) rfl rfl
  | planOffered s l k hk =>
    exact State.planQueueSound_iff.2 ((State.planQueueSound_iff.1 hs).offerNormal (State.isLive_of_link hk))
  | urgentOffered s l k cause hk hc =>
    exact State.planQueueSound_iff.2 ((State.planQueueSound_iff.1 hs).offerUrgent (State.isLive_of_link hk) hc)
  | planTaken s e rest hidle hnext => exact hs.takePlan hnext
  | planPublished s job zones k hjob hk hp =>
    exact hs.congr (Runs.planPublished s job zones k hjob hk hp).sameTables rfl rfl
  | recorded s l k r hk hr hg => exact hs.congr (Runs.recorded s l k r hk hr hg).sameTables rfl rfl
  | regraded s l k r hk hr hg =>
    exact hs.congr (Runs.regraded s l k r hk hr hg).sameTables (by simp) (by simp)
  | counted s l k n hk => exact hs.congr (.setLink hk rfl) rfl rfl
  | switched s l k n hk hn => exact hs.congr (Runs.switched s l k n hk hn).sameTables rfl rfl
  | reportIdled => exact hs.congr (.of_eq rfl rfl rfl) rfl rfl
  | _ => exact hs.congr (.of_eq (by simp) (by simp) (by simp)) (by simp) (by simp)

/-! ### The five commands -/

theorem State.vacate_planner (s : State) (n : StationIx) :
    (s.vacate n).planner = (s.planner.forget (downlink n)).forget (uplink n) := by
  simp [State.vacate]

theorem State.PlanQueueSound.vacate {s : State} (hs : s.PlanQueueSound) {n : StationIx} (hn : 3 ≤ n.val) :
    (s.vacate n).PlanQueueSound := by
  rw [State.planQueueSound_iff] at hs ⊢
  rw [State.vacate_planner]
  refine hs.sublist (List.filter_sublist.trans List.filter_sublist) (List.filter_sublist.trans List.filter_sublist)
    fun e he hl => ?_
  have hne : linkStation e.link ≠ n := fun h => by
    simp only [Planner.entries, Planner.forget, List.mem_append, List.mem_filter, decide_eq_true_eq] at he
    obtain h | h := linkStation_eq_iff.1 h <;> simp [h] at he
  rw [State.isLive, State.vacate_link s hn, if_neg hne]
  exact hl

theorem State.PlanQueueSound.admission {s : State} (hs : s.PlanQueueSound) {n : StationIx} (hn : 3 ≤ n.val) (f : Feed)
    (a : Byte) : (s.enterStation n f a).PlanQueueSound := by
  rw [State.planQueueSound_iff] at hs ⊢
  refine hs.congr (by simp) (by simp) fun l hl => ?_
  rw [State.isLive, State.enterStation_link s hn]
  split
  · rfl
  · exact hl

theorem State.PlanQueueSound.configure {s : State} (hs : s.PlanQueueSound) (f : Feed) (offset beaconLen : Nat) (a : Byte)
    (bs : List Nat) : (s.configure f offset beaconLen a bs).PlanQueueSound := by
  rw [State.planQueueSound_iff] at hs ⊢
  exact hs.congr (by simp) (by simp) fun l hl => by rwa [State.isLive, State.configure_link]

theorem State.Effect.planQueueSound {s t : State} (hs : s.PlanQueueSound) (h : s.Effect t) : t.PlanQueueSound := by
  have hset (m : Mgp) : (s.setMgp m).PlanQueueSound := hs
  cases h.progress with
  | runs h => exact h.planQueueSound hs
  | configured m hm f offset beaconLen a bs hremote h => exact h.planQueueSound ((hset m).configure ..)
  | admitted m hm n f a hn hfree haddress h => exact h.planQueueSound ((hset m).admission hn f a)
  | removed m hm n x hn hx hrefs h => exact h.planQueueSound ((hset m).vacate hn)
  | created m hm n e hcan hfree h =>
    exact h.planQueueSound ((hset m).congr (.createStream _ n e) (by simp) (by simp))
  | deleted m hm n e he hrefs h =>
    exact h.planQueueSound ((hset m).congr (.deleteStream _ n e) (by simp) (by simp))

theorem State.reset_planQueueSound : State.reset.PlanQueueSound := by
  rw [State.planQueueSound_iff]
  exact ⟨List.nodup_nil, nofun, nofun, nofun⟩

/-- Settles O15: an offer queues a link that is LIVE and not queued, a taking shortens the queue, and a removed station's
links leave it. -/
theorem stepsKeepThePlanQueueSound : Obligations.StepsKeepThePlanQueueSound := fun _ _ hs h =>
  step_keeps State.reset_planQueueSound (fun _ _ _ _ hs => hs) (fun _ _ hs he => he.planQueueSound hs) hs h

end Sys2Proof.Machine
end

section
/-! Chapters 6, 7 and 9, the records of the links: channel records (R109, R112), map sets (R139, R155, R157), and their
zones with the plan job and the fetch claims (R122, R164, R165): the invariants of O14. -/
namespace Sys2Proof.Machine

/-! ### A property of every LIVE link -/

/-- A property of a link that every change of a link keeps, and that a new link has. -/
structure LinkInvariant (P : Link → Prop) : Prop where
  recorded : ∀ k r, P k → k.record.SameLink r → P { k with record := r }
  folded : ∀ k zone r, P k → P { k with channel := changeZone k.channel zone (foldZone r) }
  reset : ∀ k : Link, P k → P k.resetSincePlan
  published : ∀ (k : Link) zones grade cause, P k → P (k.publish zones grade cause)
  counted : ∀ (k : Link) n, P k → k.next = some n → 1 < n.countdown →
    P { k with next := some { n with countdown := n.countdown - 1 } }
  switched : ∀ (k : Link) n, P k → k.next = some n → P (k.switch n)
  fresh : ∀ f g z m, P (newLink f g z m)

/-- Every LIVE link has a property. -/
def State.EachLink (P : Link → Prop) (s : State) : Prop := ∀ l k, s.link l = some k → P k

section EachLink

variable {P : Link → Prop} {s t : State}

theorem State.EachLink.congr (h : s.EachLink P) (hl : t.links = s.links) : t.EachLink P :=
  fun l k hk => h l k (by rwa [State.link_congr hl] at hk)

theorem State.EachLink.setLink (h : s.EachLink P) {l : LinkNo} {k k' : Link} (hk : s.link l = some k) (hP : P k') :
    (s.setLink l (some k')).EachLink P := fun m x hx => by
  rw [State.link_setLink s (State.six_le_of_link hk)] at hx
  split at hx
  · cases hx
    exact hP
  · exact h m x hx

theorem State.EachLink.takePlan (hP : LinkInvariant P) (h : s.EachLink P) (e : PlanEntry) (rest : Planner) :
    (s.takePlan e rest).EachLink P := by
  unfold State.takePlan
  split
  · exact h
  · rename_i k hk
    exact (h.setLink hk (hP.reset k (h _ k hk))).congr rfl

theorem State.Runs.eachLink (hP : LinkInvariant P) (h : s.Runs t) (hs : s.EachLink P) : t.EachLink P := by
  induction h with
  | trans h k ih ik => exact ik (ih hs)
  | quiet h => exact hs.congr h.links
  | foldWritten s l k zone r hk => exact hs.setLink hk (hP.folded k zone r (hs l k hk))
  | planTaken s e rest => exact hs.takePlan hP e rest
  | planPublished s job zones k hjob hk hp =>
    have idle : (s.setPlanner { s.planner with engine := .idle }).EachLink P := hs
    exact idle.setLink hk (hP.published k _ _ _ (hs _ k hk))
  | recorded s l k r hk hr hg => exact hs.setLink hk (hP.recorded k r (hs l k hk) hr)
  | regraded s l k r hk hr hg =>
    exact State.EachLink.congr (s := s.setRecord l k r) (hs.setLink hk (hP.recorded k r (hs l k hk) hr)) (by simp)
  | counted s l k n hk hn hc => exact hs.setLink hk (hP.counted k n (hs l k hk) hn hc)
  | switched s l k n hk hn =>
    exact State.EachLink.congr (s := s.setLink l (some (k.switch n))) (hs.setLink hk (hP.switched k n (hs l k hk) hn))
      rfl
  | reportIdled => exact hs.congr rfl
  | _ => exact hs.congr (by simp)

theorem State.Effect.eachLink (hP : LinkInvariant P) (hs : s.EachLink P) (h : s.Effect t) : t.EachLink P := by
  cases h.progress with
  | runs h => exact h.eachLink hP hs
  | configured m hm f offset beaconLen a bs hremote h => exact h.eachLink hP (hs.congr (by simp))
  | admitted m hm n f a hn hfree haddress h =>
    refine h.eachLink hP fun l k hk => ?_
    rw [State.enterStation_link _ hn] at hk
    split at hk
    · cases hk
      exact hP.fresh ..
    · exact hs l k hk
  | removed m hm n x hn hx hrefs h =>
    refine h.eachLink hP fun l k hk => ?_
    rw [State.vacate_link _ hn] at hk
    split at hk
    · cases hk
    · exact hs l k hk
  | created m hm n e hcan hfree h => exact h.eachLink hP (hs.congr (by simp))
  | deleted m hm n e he hrefs h => exact h.eachLink hP (hs.congr (by simp))

/-- A property that every change of a link keeps is kept by every step. -/
theorem LinkInvariant.step_keeps (hP : LinkInvariant P) (hs : s.EachLink P) (h : step s = .next t) : t.EachLink P :=
  Machine.step_keeps (P := fun s => s.EachLink P) (fun l k hk => by rw [State.reset_link] at hk; cases hk)
    (fun _ _ _ _ hs => hs) (fun _ _ hs he => he.eachLink hP hs) hs h

end EachLink

/-! ### Channel records (R109, R112) -/

theorem foldGroup_acc_le {g : GroupRecord} (h : g.acc ≤ 1020) (v : Byte) : (foldGroup g v.toNat).acc ≤ 1020 := by
  have hv := v.isLt
  unfold foldGroup
  split
  · split
    · simp only
      omega
    · simp only
      omega
  · simp only
    omega

theorem foldValues_acc_le (vs : List Byte) {groups : Vector GroupRecord 96} (h : ∀ g : Fin 96, groups[g].acc ≤ 1020)
    (start : Nat) (g : Fin 96) : (foldValues groups start vs)[g].acc ≤ 1020 := by
  induction vs generalizing groups start with
  | nil => exact h g
  | cons v rest ih =>
    refine ih (fun i => ?_) _
    split
    · rename_i hlt
      by_cases hi : start = i.val
      · subst hi
        simpa using foldGroup_acc_le (h i) v
      · simpa [Vector.getElem_set, hi] using h i
    · exact h i

/-- A zone of channel records within its ranges. -/
def ZoneRecord.Sound (z : ZoneRecord) : Prop := z.sincePlan ≤ 15 ∧ ∀ g : Fin 96, z.groups[g].acc ≤ 1020

theorem ZoneRecord.Sound.fold {z : ZoneRecord} (h : z.Sound) (r : Report) : (foldZone r z).Sound :=
  ⟨Nat.min_le_right .., foldValues_acc_le r.values h.2 _⟩

theorem mem_changeZone {zs : List ZoneRecord} {i : Nat} {g : ZoneRecord → ZoneRecord} {z : ZoneRecord}
    (h : z ∈ changeZone zs i g) : z ∈ zs ∨ ∃ y ∈ zs, z = g y := by
  unfold changeZone at h
  induction zs generalizing i with
  | nil => simp at h
  | cons x rest ih =>
    cases i with
    | zero =>
      rw [List.modify_zero_cons] at h
      obtain h | h := List.mem_cons.1 h
      · exact .inr ⟨x, by simp, h⟩
      · exact .inl (by simp [h])
    | succ i =>
      rw [List.modify_succ_cons] at h
      obtain h | h := List.mem_cons.1 h
      · exact .inl (by simp [h])
      · obtain h | ⟨y, hy, h⟩ := ih h
        · exact .inl (by simp [h])
        · exact .inr ⟨y, by simp [hy], h⟩

theorem channelSound_invariant : LinkInvariant Link.ChannelSound where
  recorded _ _ h _ := h
  folded k zone r h z hz := by
    obtain hz | ⟨y, hy, rfl⟩ := mem_changeZone hz
    · exact h z hz
    · exact ZoneRecord.Sound.fold (h y hy) r
  reset k h z hz := by
    obtain ⟨y, hy, rfl⟩ := List.mem_map.1 hz
    exact ⟨Nat.zero_le _, (h y hy).2⟩
  published _ _ _ _ h := h
  counted _ _ h _ _ := h
  switched _ _ h _ := h
  fresh f g z m x hx := by
    rw [List.eq_of_mem_replicate hx]
    exact ⟨Nat.zero_le _, fun i => by simp [ZoneRecord.cleared]⟩

/-! ### Map sets (R139, R155, R157) -/

theorem countdownOf_bounds (c : Cause) : 1 ≤ countdownOf c ∧ countdownOf c ≤ 2 := by cases c <;> decide

theorem setsSound_invariant : LinkInvariant Link.SetsSound where
  recorded k r h hr := ⟨h.1, by rw [hr.pendingCause]; exact h.2⟩
  folded _ _ _ h := h
  reset _ h := h
  published k zones grade cause h := by
    refine ⟨fun n hn => ?_, by simp [Link.publish]⟩
    have hc := countdownOf_bounds cause
    simp only [Link.publish, Option.some.injEq] at hn
    subst hn
    unfold Link.staged
    split
    · exact ⟨rfl, hc⟩
    · rename_i n hn
      obtain ⟨hv, h1, h2⟩ := h.1 n hn
      exact ⟨hv, by simp only; omega, by simp only; omega⟩
  counted k n h hn hc := by
    obtain ⟨hv, h1, h2⟩ := h.1 n hn
    refine ⟨fun m hm => ?_, ?_⟩
    · cases hm
      exact ⟨hv, by simp only; omega, by simp only; omega⟩
    · have := h.2
      rw [hn] at this
      exact this
  switched k n h hn := ⟨nofun, by simp [Link.switch]⟩
  fresh f g z m := ⟨nofun, by simp [newLink]⟩

/-! ### Zones of links, plan job and claims (R109, R122, R155, R164, R165) -/

/-- A link as wide as another: of the same feed and generation, with as many zones in its records and in each of its
sets. -/
structure Link.SameWidth (k k' : Link) : Prop where
  owner : k'.owner = k.owner
  channel : k'.channel.length = k.channel.length
  active : k'.active.zones.length = k.active.zones.length
  next : (k'.next.map fun n => n.maps.zones.length) = k.next.map fun n => n.maps.zones.length

theorem Link.SameWidth.next_some {k k' : Link} (h : k.SameWidth k') {n : NextSet} (hn : k.next = some n) :
    ∃ n', k'.next = some n' ∧ n'.maps.zones.length = n.maps.zones.length := by
  have := h.next
  rw [hn] at this
  simpa using this

theorem Link.SameWidth.symm {k k' : Link} (h : k.SameWidth k') : k'.SameWidth k :=
  ⟨h.owner.symm, h.channel.symm, h.active.symm, h.next.symm⟩

theorem Link.SameWidth.feed {k k' : Link} (h : k.SameWidth k') : k'.record.feed = k.record.feed :=
  congrArg Prod.fst h.owner

theorem Link.SameWidth.generation {k k' : Link} (h : k.SameWidth k') : k'.record.generation = k.record.generation :=
  congrArg Prod.snd h.owner

theorem Link.SameWidth.zonesMatch {s : State} {k k' : Link} (h : k.SameWidth k') (hk : s.LinkZonesMatch k) :
    s.LinkZonesMatch k' := by
  obtain ⟨hc, ha, hn⟩ := hk
  refine ⟨by rw [h.channel, h.feed, hc], by rw [h.active, h.feed, ha], fun n' hn' => ?_⟩
  obtain ⟨n, h1, h2⟩ := h.symm.next_some hn'
  rw [← h2, h.feed]
  exact hn n h1

/-- R109 and R155 for every LIVE link. -/
def State.LinksWide (s : State) : Prop := ∀ l k, s.link l = some k → s.LinkZonesMatch k

/-- R122 for the plan job in hand. -/
def State.JobFits (s : State) : Prop :=
  ∀ job zones k, s.planner.engine.job = some (job, zones) → s.link job.link = some k →
    k.record.generation = job.generation → zones.length = s.zoneCount k.record.feed

/-- R164 and R165 for every fetch claim. -/
def State.ClaimsName (s : State) : Prop := ∀ f c, s.claims.get f = some c → s.ClaimNamesASet f c

section Zones

variable {s t : State}

theorem State.LinkZonesMatch.congr {k : Link} (h : s.LinkZonesMatch k) (hz : ∀ f, t.zoneCount f = s.zoneCount f) :
    t.LinkZonesMatch k := by
  obtain ⟨hc, ha, hn⟩ := h
  exact ⟨by rw [hz, hc], by rw [hz, ha], fun n hm => by rw [hz, hn n hm]⟩

theorem State.JobFits.of_none (h : t.planner.engine.job = none) : t.JobFits := fun job zones k hj => by
  rw [h] at hj
  cases hj

/-- Every link of t is as wide as that of s. -/
theorem State.ClaimNamesASet.mono {f : Feed} {c : FetchClaim} (h : s.ClaimNamesASet f c)
    (hl : ∀ k, s.link c.link = some k → ∃ k', t.link c.link = some k' ∧ k.SameWidth k') : t.ClaimNamesASet f c := by
  unfold State.ClaimNamesASet at h ⊢
  split
  · rename_i m hm
    rw [hm] at h
    exact h
  · rename_i hm
    rw [hm] at h
    obtain ⟨k, hk, hf, hg, hz⟩ := h
    obtain ⟨k', hk', hw⟩ := hl k hk
    exact ⟨k', hk', hw.feed.trans hf, hw.generation.trans hg, by rw [hw.active]; exact hz⟩
  · rename_i hm
    rw [hm] at h
    obtain ⟨k, n, hk, hn, hf, hg, hz⟩ := h
    obtain ⟨k', hk', hw⟩ := hl k hk
    obtain ⟨n', hn', hlen⟩ := hw.next_some hn
    exact ⟨k', n', hk', hn', hw.feed.trans hf, hw.generation.trans hg, by rw [hlen]; exact hz⟩

theorem Link.SameWidth.rfl' (k : Link) : k.SameWidth k := ⟨rfl, rfl, rfl, rfl⟩

/-- The links, the claims, the numbers of zones and the job in hand are as they were. -/
theorem State.ZonesSound.congr (h : s.ZonesSound) (hl : t.links = s.links) (hz : ∀ f, t.zoneCount f = s.zoneCount f)
    (hc : t.claims = s.claims) (hj : t.planner.engine.job = s.planner.engine.job) : t.ZonesSound := by
  obtain ⟨hlinks, hjob, hclaims⟩ := h
  refine ⟨fun l k hk => ?_, fun job zones k he hk hg => ?_, fun f c hf => ?_⟩
  · rw [State.link_congr hl] at hk
    exact (hlinks l k hk).congr hz
  · rw [hj] at he
    rw [State.link_congr hl] at hk
    rw [hz]
    exact hjob job zones k he hk hg
  · rw [hc] at hf
    exact (hclaims f c hf).mono fun k hk => ⟨k, by rwa [State.link_congr hl], .rfl' k⟩

/-- With the job in hand gone. -/
theorem State.ZonesSound.idle (h : s.ZonesSound) (hl : t.links = s.links) (hm : t.mtu = s.mtu)
    (hc : t.claims = s.claims) (hj : t.planner.engine.job = none) : t.ZonesSound := by
  have hz : ∀ f, t.zoneCount f = s.zoneCount f := fun f => by rw [State.zoneCount, State.zoneCount, hm]
  obtain ⟨hlinks, -, hclaims⟩ := h
  refine ⟨fun l k hk => ?_, State.JobFits.of_none hj, fun f c hf => ?_⟩
  · rw [State.link_congr hl] at hk
    exact (hlinks l k hk).congr hz
  · rw [hc] at hf
    exact (hclaims f c hf).mono fun k hk => ⟨k, by rwa [State.link_congr hl], .rfl' k⟩

/-- One link replaced by one as wide. -/
theorem State.ZonesSound.setLink (h : s.ZonesSound) {l : LinkNo} {k k' : Link} (hk : s.link l = some k)
    (hw : k.SameWidth k') : (s.setLink l (some k')).ZonesSound := by
  obtain ⟨hlinks, hjob, hclaims⟩ := h
  have hl := State.six_le_of_link hk
  refine ⟨fun m x hx => ?_, fun job zones x he hx hg => ?_, fun f c hf => ?_⟩
  · rw [State.link_setLink s hl] at hx
    split at hx
    · cases hx
      exact hw.zonesMatch (hlinks l k hk)
    · exact hlinks m x hx
  · rw [State.link_setLink s hl] at hx
    split at hx
    · rename_i hm
      cases hx
      rw [hw.feed]
      exact hjob job zones k he (hm ▸ hk) (hw.generation.symm.trans hg)
    · exact hjob job zones x he hx hg
  · refine (hclaims f c hf).mono fun x hx => ?_
    rw [State.link_setLink s hl]
    split
    · rename_i hm
      rw [hm, hk] at hx
      cases hx
      exact ⟨k', rfl, hw⟩
    · exact ⟨x, hx, .rfl' x⟩

/-- Cycle link f without its claim. -/
theorem State.ZonesSound.release (h : s.ZonesSound) (hl : t.links = s.links) (hm : t.mtu = s.mtu)
    (hj : t.planner = s.planner) {f : Feed} (hc : t.claims = s.claims.set f none) : t.ZonesSound := by
  have hz : ∀ f, t.zoneCount f = s.zoneCount f := fun f => by rw [State.zoneCount, State.zoneCount, hm]
  obtain ⟨hlinks, hjob, hclaims⟩ := h
  refine ⟨fun l k hk => ?_, fun job zones k he hk hg => ?_, fun g c hg => ?_⟩
  · rw [State.link_congr hl] at hk
    exact (hlinks l k hk).congr hz
  · rw [hj] at he
    rw [State.link_congr hl] at hk
    rw [hz]
    exact hjob job zones k he hk hg
  · rw [hc, PerFeed.get_set] at hg
    split at hg
    · cases hg
    · exact (hclaims g c hg).mono fun k hk => ⟨k, by rwa [State.link_congr hl], .rfl' k⟩

/-- A claim placed on a set of a LIVE link that holds the zone (R163, R164). -/
theorem State.ZonesSound.fetch (h : s.ZonesSound) {f : Feed} {l : LinkNo} {k : Link} {version : Byte} {zone : Nat}
    {named : ClaimedSet} (hk : s.link l = some k) (hf : k.record.feed = f) (hv : k.versioned version = some named)
    (hz : zone < s.zoneCount f) : (s.setClaim f (some ⟨l, k.record.generation, zone, named⟩)).ZonesSound := by
  obtain ⟨hlinks, hjob, hclaims⟩ := h
  refine ⟨hlinks, hjob, fun g c hg => ?_⟩
  rw [State.setClaim_claims, PerFeed.get_set] at hg
  split at hg
  · rename_i hgf
    cases hg
    subst hgf
    obtain ⟨-, ha, hn⟩ := hlinks l k hk
    unfold Link.versioned at hv
    split at hv
    · cases hv
      exact ⟨k, hk, hf, rfl, by rw [ha, hf]; exact hz⟩
    · split at hv
      · rename_i hany
        cases hv
        obtain ⟨n, hnext, -⟩ := Option.any_eq_true .. |>.1 hany
        exact ⟨k, n, hk, hnext, hf, rfl, by rw [hn n hnext, hf]; exact hz⟩
      · cases hv
  · exact hclaims g c hg

/-- A job of the link's generation is published: its set is as wide as the feed (R125, R157, R158). -/
theorem State.ZonesSound.publish (h : s.ZonesSound) {job : PlanJob} {zones : List ZoneMap} {k : Link}
    (hjob : s.planner.engine.job = some (job, zones)) (hk : s.link job.link = some k)
    (hp : job.publishes zones k = true) :
    ((s.setPlanner { s.planner with engine := .idle }).setLink job.link
      (some (k.publish zones job.grade job.cause))).ZonesSound := by
  simp only [PlanJob.publishes, Bool.and_eq_true, decide_eq_true_eq] at hp
  obtain ⟨hlinks, hfits, hclaims⟩ := h
  have hlen := hfits job zones k hjob hk hp.1.1
  obtain ⟨hchannel, hactive, hnext⟩ := hlinks _ k hk
  have hstaged : (k.staged zones job.grade job.cause).maps.zones = zones := by
    unfold Link.staged
    split <;> rfl
  have hl := State.six_le_of_link hk
  refine ⟨fun m x hx => ?_, State.JobFits.of_none rfl, fun f c hf => ?_⟩
  · rw [State.link_setLink _ hl] at hx
    split at hx
    · cases hx
      refine ⟨hchannel, hactive, fun n hn => ?_⟩
      cases hn
      rw [hstaged]
      exact hlen
    · exact hlinks m x hx
  · have hc := hclaims f c hf
    by_cases hm : c.link = job.link
    · have hnew : ((s.setPlanner { s.planner with engine := .idle }).setLink job.link
          (some (k.publish zones job.grade job.cause))).link c.link = some (k.publish zones job.grade job.cause) := by
        rw [hm, State.link_setLink_self _ hl]
      unfold State.ClaimNamesASet at hc ⊢
      split
      · rename_i x hx
        rw [hx] at hc
        exact hc
      · rename_i hx
        rw [hx] at hc
        obtain ⟨y, hy, hrest⟩ := hc
        rw [hm, hk] at hy
        cases hy
        exact ⟨_, hnew, hrest⟩
      · rename_i hx
        rw [hx] at hc
        obtain ⟨y, n, hy, hn, hfeed, hgen, hz⟩ := hc
        rw [hm, hk] at hy
        cases hy
        refine ⟨_, _, hnew, rfl, hfeed, hgen, ?_⟩
        rw [hstaged, hlen, ← hnext n hn]
        exact hz
    · refine hc.mono fun x hx => ⟨x, ?_, .rfl' x⟩
      rw [State.link_setLink_of_ne _ hm]
      exact hx

theorem State.eachClaim_get (s : State) (g : FetchClaim → FetchClaim) (f : Feed) :
    (s.eachClaim g).claims.get f = (s.claims.get f).map g := by cases f <;> rfl

theorem FetchClaim.switched_of_ne {c : FetchClaim} {l : LinkNo} (h : c.link ≠ l) (m : MapSet) : c.switched l m = c :=
  if_neg h

theorem FetchClaim.orphaned_of_ne {c : FetchClaim} {l : LinkNo} (h : c.link ≠ l) (k : Link) : c.orphaned l k = c :=
  if_neg h

/-- A switchover: a claimed NEXT set is ACTIVE now, and a claimed ACTIVE set is kept (R160, R165). -/
theorem State.ZonesSound.switch (h : s.ZonesSound) {l : LinkNo} {k : Link} {n : NextSet} (hk : s.link l = some k)
    (hn : k.next = some n) : ((s.setLink l (some (k.switch n))).eachClaim (·.switched l k.active)).ZonesSound := by
  obtain ⟨hlinks, hjob, hclaims⟩ := h
  have hl := State.six_le_of_link hk
  obtain ⟨hchannel, hactive, hnext⟩ := hlinks l k hk
  have hlink : ∀ m, ((s.setLink l (some (k.switch n))).eachClaim (·.switched l k.active)).link m =
      if m = l then some (k.switch n) else s.link m := fun m => by
    rw [← State.link_setLink s hl]
    exact State.link_congr rfl m
  refine ⟨fun m x hx => ?_, fun job zones x he hx hg => ?_, fun f c hf => ?_⟩
  · rw [hlink] at hx
    split at hx
    · cases hx
      exact ⟨hchannel, hnext n hn, nofun⟩
    · exact hlinks m x hx
  · rw [hlink] at hx
    split at hx
    · rename_i hm
      cases hx
      exact hjob job zones k he (hm ▸ hk) hg
    · exact hjob job zones x he hx hg
  · rw [State.eachClaim_get, Option.map_eq_some_iff] at hf
    obtain ⟨c, hc, rfl⟩ := hf
    have hset := hclaims f c hc
    by_cases hm : c.link = l
    · unfold FetchClaim.switched
      rw [if_pos hm]
      unfold State.ClaimNamesASet at hset
      split at hset
      · rename_i m hnamed
        simpa [State.ClaimNamesASet, hnamed] using hset
      · rename_i hnamed
        obtain ⟨y, hy, -, -, hz⟩ := hset
        rw [hm, hk] at hy
        cases hy
        simpa [State.ClaimNamesASet, hnamed] using hz
      · rename_i hnamed
        obtain ⟨y, n', hy, hn', hfeed, hgen, hz⟩ := hset
        rw [hm, hk] at hy
        cases hy
        cases hn.symm.trans hn'
        simp only [hnamed, State.ClaimNamesASet]
        exact ⟨k.switch n, (hlink c.link).trans (if_pos hm), hfeed, hgen, hz⟩
    · rw [FetchClaim.switched_of_ne hm]
      refine hset.mono fun x hx => ⟨x, ?_, .rfl' x⟩
      rw [hlink, if_neg hm]
      exact hx

theorem planZones_length (job : PlanJob) (channel : List ZoneRecord) :
    (planZones job channel).length = channel.length := by
  unfold planZones
  split <;> simp

/-- A job taken is as wide as the records it is computed from (R122, R126 to R130). -/
theorem State.ZonesSound.takePlan (h : s.ZonesSound) (hidle : s.planner.engine = .idle) {e : PlanEntry}
    {rest : Planner} (hnext : s.planner.nextPlan = some (e, rest)) : (s.takePlan e rest).ZonesSound := by
  obtain ⟨hengine, -, -⟩ := Planner.nextPlan_spec hnext
  have hnone : rest.engine.job = none := by rw [hengine, hidle]; rfl
  unfold State.takePlan
  split
  · exact h.idle rfl rfl rfl hnone
  · rename_i k hk
    have hw : k.SameWidth k.resetSincePlan := ⟨rfl, by simp [Link.resetSincePlan], rfl, rfl⟩
    have hreset := h.setLink hk hw
    obtain ⟨hchannel, -, -⟩ := h.1 _ k hk
    obtain ⟨hlinks, -, hclaims⟩ := hreset
    refine ⟨hlinks, ?_, hclaims⟩
    intro job zones x he hx hg
    simp only [State.setPlanner_planner] at he
    split at he
    · rw [hnone] at he
      cases he
    · cases he
      have hxk : x = k.resetSincePlan := by
        have : (s.setLink e.link (some k.resetSincePlan)).link e.link = some x := hx
        rw [State.link_setLink_self s (State.six_le_of_link hk)] at this
        exact (Option.some.inj this).symm
      rw [planZones_length, hchannel, hxk]
      rfl

theorem Link.sameWidth_record (k : Link) {r : LinkRecord} (h : k.record.SameLink r) :
    k.SameWidth { k with record := r } := ⟨by simp [Link.owner, h.feed, h.generation], rfl, rfl, rfl⟩

theorem State.Runs.zonesSound (h : s.Runs t) (hs : s.ZonesSound) : t.ZonesSound := by
  induction h with
  | trans h k ih ik => exact ik (ih hs)
  | quiet h =>
    exact hs.congr h.links (State.SameTables.quiet h).zones h.claims (by rw [h.planner])
  | fetched s f tag l k version zone named hslot hk hf hv hz =>
    exact (hs.fetch hk hf hv hz).congr rfl (fun _ => rfl) rfl rfl
  | slotEnded s f => exact hs.release rfl rfl rfl rfl
  | flushed s f => exact hs.release rfl rfl rfl rfl
  | reportIdled => exact hs.congr rfl (fun _ => rfl) rfl rfl
  | foldTaken s r rest hidle => exact hs.idle rfl rfl rfl rfl
  | foldWritten s l k zone r hk => exact hs.setLink hk ⟨rfl, by simp [changeZone], rfl, rfl⟩
  | foldEnded s b hb => exact hs.idle rfl rfl rfl rfl
  | planTaken s e rest hidle hnext => exact hs.takePlan hidle hnext
  | planWaits s job zones hjob => exact hs.congr rfl (fun _ => rfl) rfl (by rw [hjob]; rfl)
  | planDropped s job zones hjob => exact hs.idle rfl rfl rfl rfl
  | planPublished s job zones k hjob hk hp => exact hs.publish hjob hk hp
  | recorded s l k r hk hr hg => exact hs.setLink hk (k.sameWidth_record hr)
  | regraded s l k r hk hr hg =>
    have recorded : (s.setRecord l k r).ZonesSound := hs.setLink hk (k.sameWidth_record hr)
    exact recorded.congr (by simp) (fun f => by simp [State.zoneCount]) (by simp) (by simp)
  | counted s l k n hk hn hc =>
    exact hs.setLink hk ⟨rfl, rfl, rfl, by simp [hn]⟩
  | switched s l k n hk hn => exact hs.switch hk hn
  | planOffered s l k hk => exact hs.congr rfl (fun _ => rfl) rfl (by simp [State.offerPlan])
  | urgentOffered s l k cause hk hc => exact hs.congr rfl (fun _ => rfl) rfl (by simp [State.offerUrgent])
  | reportFilled => exact hs.congr rfl (fun _ => rfl) rfl rfl
  | _ => exact hs.congr (by simp) (fun _ => by simp [State.zoneCount]) (by simp) (by simp)

/-! ### The five commands -/

theorem State.ZonesSound.configure (hs : s.ZonesSound) (hlinks : s.LinksMatchStations) {f : Feed}
    (hremote : s.remoteMember f = false) (offset beaconLen : Nat) (a : Byte) (bs : List Nat) :
    (s.configure f offset beaconLen a bs).ZonesSound := by
  have hother : ∀ l k, s.link l = some k → k.record.feed ≠ f := fun l k hk hf => by
    have hl := State.six_le_of_link hk
    have hm := State.linksMatch_iff.1 hlinks l hl
    rw [hk, Option.map_some, eq_comm, Option.map_eq_some_iff] at hm
    obtain ⟨m, hm, hown⟩ := hm
    simp only [State.remoteMember, List.any_eq_false, List.mem_finRange, Bool.and_eq_true, decide_eq_true_eq,
      true_implies] at hremote
    refine hremote (linkStation l) ⟨by simp only [linkStation]; omega, ?_⟩
    have hfeed : m.feed = k.record.feed := congrArg Prod.fst hown
    simp [State.memberOn, hm, hfeed, hf]
  have hz : ∀ g, g ≠ f → (s.configure f offset beaconLen a bs).zoneCount g = s.zoneCount g := fun g hg => by
    simp [State.zoneCount, State.configure, PerFeed.get_set, hg]
  obtain ⟨hwide, hjob, hclaims⟩ := hs
  refine ⟨fun l k hk => ?_, fun job zones k he hk hg => ?_, fun g c hc => ?_⟩
  · rw [State.configure_link] at hk
    obtain ⟨h1, h2, h3⟩ := hwide l k hk
    have := hz _ (hother l k hk)
    exact ⟨by rw [this, h1], by rw [this, h2], fun n hn => by rw [this, h3 n hn]⟩
  · rw [State.configure_link] at hk
    rw [hz _ (hother _ k hk)]
    exact hjob job zones k (by simpa using he) hk hg
  · have hc' : s.claims.get g = some c := by simpa using hc
    exact (hclaims g c hc').mono fun k hk => ⟨k, by rwa [State.configure_link], .rfl' k⟩

/-- A job in hand is not of the generation that an admission gives (R122). -/
theorem State.ZonesSound.admission (hs : s.ZonesSound) (hlinks : s.LinksMatchStations) (hlap : s.JobNotLapped)
    {n : StationIx} (hn : 3 ≤ n.val) (hfree : (s.station n).member = none) (f : Feed) (a : Byte) :
    (s.enterStation n f a).ZonesSound := by
  obtain ⟨hwide, hjob, hclaims⟩ := hs
  have hnone : ∀ l, linkStation l = n → s.link l = none := fun l hl => hlinks.link_none (by rw [hl]; exact hfree)
  refine ⟨fun l k hk => ?_, fun job zones k he hk hg => ?_, fun g c hc => ?_⟩
  · rw [State.enterStation_link s hn] at hk
    split at hk
    · cases hk
      exact ⟨by simp [newLink]; rfl, by simp [newLink]; rfl, nofun⟩
    · exact hwide l k hk
  · rw [State.enterStation_link s hn] at hk
    split at hk
    · rename_i hl
      cases hk
      refine absurd hg ?_
      have := hlap job zones he (hnone _ hl)
      rwa [hl] at this
    · exact hjob job zones k he hk hg
  · refine (hclaims g c hc).mono fun k hk => ⟨k, ?_, .rfl' k⟩
    have hne : linkStation c.link ≠ n := fun hl => by
      rw [hnone _ hl] at hk
      cases hk
    rw [State.enterStation_link s hn, if_neg hne]
    exact hk

/-- A link is freed, and a claim keeps the set it names (R165, R166). -/
theorem State.ZonesSound.freeLink (hs : s.ZonesSound) {l : LinkNo} (hl : 6 ≤ l.val) : (s.freeLink l).ZonesSound := by
  cases hk : s.link l with
  | none => rwa [State.freeLink, hk]
  | some k =>
    have hlink := s.freeLink_link hl
    have hzone : ∀ f, (s.freeLink l).zoneCount f = s.zoneCount f := fun f => by simp [State.zoneCount]
    obtain ⟨hwide, hjob, hclaims⟩ := hs
    refine ⟨fun m x hx => ?_, fun job zones x he hx hg => ?_, fun f c hf => ?_⟩
    · rw [hlink] at hx
      split at hx
      · cases hx
      · exact (hwide m x hx).congr hzone
    · rw [hlink] at hx
      split at hx
      · cases hx
      · rw [hzone]
        exact hjob job zones x (by simpa using he) hx hg
    · have hclaim : (s.freeLink l).claims.get f = (s.claims.get f).map (·.orphaned l k) := by
        rw [State.freeLink, hk]
        exact State.eachClaim_get ..
      rw [hclaim, Option.map_eq_some_iff] at hf
      obtain ⟨c, hc, rfl⟩ := hf
      have hset := hclaims f c hc
      by_cases hm : c.link = l
      · unfold FetchClaim.orphaned
        rw [if_pos hm]
        unfold State.ClaimNamesASet at hset
        split at hset
        · rename_i m hnamed
          simpa [State.ClaimNamesASet, hnamed] using hset
        · rename_i hnamed
          obtain ⟨y, hy, -, -, hz⟩ := hset
          rw [hm, hk] at hy
          cases hy
          simpa [State.ClaimNamesASet, hnamed] using hz
        · rename_i hnamed
          obtain ⟨y, n', hy, hn', -, -, hz⟩ := hset
          rw [hm, hk] at hy
          cases hy
          simpa [State.ClaimNamesASet, hnamed, hn'] using hz
      · rw [FetchClaim.orphaned_of_ne hm]
        refine hset.mono fun x hx => ⟨x, ?_, .rfl' x⟩
        rw [hlink, if_neg hm]
        exact hx

theorem State.ZonesSound.vacate (hs : s.ZonesSound) {n : StationIx} (hn : 3 ≤ n.val) : (s.vacate n).ZonesSound := by
  refine State.ZonesSound.freeLink (State.ZonesSound.freeLink ?_ (six_le_downlink hn)) (six_le_uplink hn)
  exact hs.congr rfl (fun _ => rfl) rfl rfl

theorem State.Effect.zonesSound (hlinks : s.LinksMatchStations) (hlap : s.JobNotLapped) (hs : s.ZonesSound)
    (h : s.Effect t) : t.ZonesSound := by
  have hset (m : Mgp) : (s.setMgp m).ZonesSound := hs
  cases h.progress with
  | runs h => exact h.zonesSound hs
  | configured m hm f offset beaconLen a bs hremote h =>
    exact h.zonesSound ((hset m).configure hlinks hremote offset beaconLen a bs)
  | admitted m hm n f a hn hfree haddress h => exact h.zonesSound ((hset m).admission hlinks hlap hn hfree f a)
  | removed m hm n x hn hx hrefs h => exact h.zonesSound ((hset m).vacate hn)
  | created m hm n e hcan hfree h =>
    exact h.zonesSound ((hset m).congr (by simp) (State.SameTables.createStream _ n e).zones (by simp) (by simp))
  | deleted m hm n e he hrefs h =>
    exact h.zonesSound ((hset m).congr (by simp) (State.SameTables.deleteStream _ n e).zones (by simp) (by simp))

end Zones

theorem State.reset_zonesSound : State.reset.ZonesSound := by
  refine ⟨fun l k hk => ?_, State.JobFits.of_none rfl, fun f c hc => ?_⟩
  · rw [State.reset_link] at hk
    cases hk
  · simp [State.reset] at hc

/-- Settles O14: a link's own records are kept by every change of a link; the zones of links, plan job and claims are kept
together, since a publication is of the link's generation and an admission is not of the job's. -/
theorem stepsKeepChannelsAndSetsSound : Obligations.StepsKeepChannelsAndSetsSound := by
  refine ⟨fun _ _ hs h => channelSound_invariant.step_keeps hs h, fun _ _ hs h => setsSound_invariant.step_keeps hs h,
    fun s t hlinks hlap hs h => ?_⟩
  obtain ⟨p, n, rfl⟩ | rfl | ⟨p, n, he⟩ := step_cases h
  · exact State.reset_zonesSound
  · exact hs
  · exact State.Effect.zonesSound (s := { s with pending := p, choices := n }) hlinks hlap hs he

end Sys2Proof.Machine
end

section
/-! Chapters 9 to 11, the queues of the CLCs and of the MGP (R169, R181, R191) and the fetch claims with the responses in
the slots (R164, R176): the invariants of O16. -/
namespace Sys2Proof.Machine

/-! ### Notices that replace one another (R181) -/

theorem GeneralNotice.coalesces_symm (x y : GeneralNotice) : x.coalesces y = y.coalesces x := by
  cases x <;> cases y <;> simp [GeneralNotice.coalesces, eq_comm]

/-- Two notices for one link coalesce with the same others. -/
theorem GeneralNotice.coalesces_congr {x y : GeneralNotice} (h : x.coalesces y = true) (z : GeneralNotice) :
    y.coalesces z = x.coalesces z := by
  cases x <;> cases y <;> simp_all [GeneralNotice.coalesces] <;> cases z <;> rfl

theorem replaceNotice_length (n : GeneralNotice) (q : List GeneralNotice) : (replaceNotice n q).length = q.length := by
  induction q with
  | nil => rfl
  | cons x rest ih =>
    unfold replaceNotice
    split
    · rfl
    · simp [ih]

theorem mem_replaceNotice {n x : GeneralNotice} {q : List GeneralNotice} (h : x ∈ replaceNotice n q) :
    x ∈ q ∨ x = n ∧ ∃ y ∈ q, n.coalesces y = true := by
  induction q with
  | nil => simp [replaceNotice] at h
  | cons y rest ih =>
    unfold replaceNotice at h
    split at h
    · rename_i hy
      obtain rfl | h := List.mem_cons.1 h
      · exact .inr ⟨rfl, y, by simp, hy⟩
      · exact .inl (by simp [h])
    · obtain rfl | h := List.mem_cons.1 h
      · exact .inl (by simp)
      · obtain h | ⟨h, z, hz, hc⟩ := ih h
        · exact .inl (by simp [h])
        · exact .inr ⟨h, z, by simp [hz], hc⟩

theorem replaceNotice_pairwise (n : GeneralNotice) {q : List GeneralNotice}
    (h : q.Pairwise fun x y => x.coalesces y = false) :
    (replaceNotice n q).Pairwise fun x y => x.coalesces y = false := by
  induction q with
  | nil => exact h
  | cons x rest ih =>
    obtain ⟨hx, hrest⟩ := List.pairwise_cons.1 h
    unfold replaceNotice
    split
    · rename_i hn
      exact List.pairwise_cons.2 ⟨fun y hy => (GeneralNotice.coalesces_congr hn y).symm.trans (hx y hy), hrest⟩
    · rename_i hn
      refine List.pairwise_cons.2 ⟨fun y hy => ?_, ih hrest⟩
      obtain hy | ⟨rfl, -⟩ := mem_replaceNotice hy
      · exact hx y hy
      · rw [GeneralNotice.coalesces_symm]
        simpa using hn

/-! ### The queues of a CLC (R169, R180, R181) -/

namespace Clc.QueuesSound

variable {c d : Clc}

theorem congr (h : c.QueuesSound) (ht : d.timing = c.timing) (hg : d.general = c.general) : d.QueuesSound := by
  unfold Clc.QueuesSound
  rw [ht, hg]
  exact h

theorem sublist (h : c.QueuesSound) (ht : d.timing.Sublist c.timing) (hg : d.general.Sublist c.general) :
    d.QueuesSound := by
  obtain ⟨h1, h2, h3⟩ := h
  exact ⟨ht.length_le.trans h1, hg.length_le.trans h2, h3.sublist hg⟩

theorem advanced (h : c.QueuesSound) (hd : c.Advanced d) : d.QueuesSound :=
  h.sublist hd.timing.sublist hd.general.sublist

theorem queueTiming (h : c.QueuesSound) (n : TimingNotice) : (c.queueTiming n).QueuesSound := by
  obtain ⟨h1, h2, h3⟩ := h
  unfold Clc.queueTiming Config.noticeQueueSize
  split
  · exact ⟨by simp only [List.length_append, List.length_singleton]; omega, h2, h3⟩
  · exact ⟨by simp only [List.length_append, List.length_drop, List.length_singleton]; omega, h2, h3⟩

theorem queueGeneral (h : c.QueuesSound) (n : GeneralNotice) : (c.queueGeneral n).QueuesSound := by
  obtain ⟨h1, h2, h3⟩ := h
  unfold Clc.queueGeneral Config.noticeQueueSize
  split
  · exact ⟨h1, by simp only [replaceNotice_length]; exact h2, replaceNotice_pairwise n h3⟩
  · rename_i hnone
    split
    · refine ⟨h1, by simp only [List.length_append, List.length_singleton]; omega, ?_⟩
      refine List.pairwise_append.2 ⟨h3, List.pairwise_singleton .., fun x hx y hy => ?_⟩
      cases List.mem_singleton.1 hy
      rw [GeneralNotice.coalesces_symm]
      simpa using List.any_eq_false.1 (by simpa using hnone) x hx
    · exact ⟨h1, h2, h3⟩

end Clc.QueuesSound

/-! ### The event queue (R191) -/

theorem offerEventTo_of_marker {q : List EventRecord} {n : Nat} (h : q.getLast? = some (.eventsLost n)) (e : EventRecord) :
    offerEventTo q e = q.dropLast ++ [.eventsLost (min (n + 1) Config.countCap)] := by simp [offerEventTo, h]

theorem offerEventTo_of_no_marker {q : List EventRecord} (h : ∀ n, q.getLast? ≠ some (.eventsLost n)) (e : EventRecord) :
    offerEventTo q e = if q.length < 15 then q ++ [e] else q ++ [.eventsLost 1] := by
  unfold offerEventTo
  split
  · rename_i n hn
    exact absurd hn (h n)
  · rfl

theorem EventRecord.isMarker_iff {e : EventRecord} : e.isMarker = true ↔ ∃ n, e = .eventsLost n := by
  cases e <;> simp [EventRecord.isMarker]

theorem eventsSound.offer {q : List EventRecord} (h : eventsSound q) (e : EventRecord) : eventsSound (offerEventTo q e) := by
  obtain ⟨hlen, hmark, hfull⟩ := h
  by_cases hlast : ∃ n, q.getLast? = some (.eventsLost n)
  · obtain ⟨n, hn⟩ := hlast
    rw [offerEventTo_of_marker hn]
    have hpos : 0 < q.length := List.length_pos_iff.2 fun hq => by simp [hq] at hn
    refine ⟨by simp only [List.length_append, List.length_dropLast, List.length_singleton]; omega, ?_, fun _ => ?_⟩
    · rw [List.dropLast_concat]
      exact hmark
    · exact ⟨_, List.getLast?_concat, rfl⟩
  · have hno : ∀ n, q.getLast? ≠ some (.eventsLost n) := fun n hn => hlast ⟨n, hn⟩
    have hclean : ∀ x ∈ q, x.isMarker = false := fun x hx => by
      obtain hq | ⟨y, hy⟩ := Option.eq_none_or_eq_some q.getLast?
      · rw [List.getLast?_eq_none_iff.1 hq] at hx
        cases hx
      · rw [← List.dropLast_append_getLast? y hy] at hx
        obtain hx | hx := List.mem_append.1 hx
        · exact hmark x hx
        · cases List.mem_singleton.1 hx
          by_contra hm
          obtain ⟨n, rfl⟩ := EventRecord.isMarker_iff.1 (by simpa using hm)
          exact hno n hy
    have hne : q.length ≠ 16 := fun h16 => by
      obtain ⟨y, hy, hm⟩ := hfull h16
      obtain ⟨n, rfl⟩ := EventRecord.isMarker_iff.1 hm
      exact hno n hy
    rw [offerEventTo_of_no_marker hno]
    split
    · refine ⟨by simp only [List.length_append, List.length_singleton]; omega, ?_, fun h16 => ?_⟩
      · rw [List.dropLast_concat]
        exact hclean
      · simp only [List.length_append, List.length_singleton] at h16
        omega
    · refine ⟨by simp only [List.length_append, List.length_singleton]; omega, ?_, fun _ => ?_⟩
      · rw [List.dropLast_concat]
        exact hclean
      · exact ⟨_, List.getLast?_concat, rfl⟩

theorem eventsSound.tail {e : EventRecord} {rest : List EventRecord} (h : eventsSound (e :: rest)) : eventsSound rest := by
  obtain ⟨hlen, hmark, -⟩ := h
  rw [List.length_cons] at hlen
  refine ⟨by omega, fun x hx => hmark x ?_, fun h16 => by omega⟩
  cases rest with
  | nil => cases hx
  | cons y ys =>
    rw [List.dropLast_cons_cons]
    exact List.mem_cons_of_mem _ hx

/-! ### The queues of the part -/

section Queues

variable {s t : State}

theorem State.QueuesSound.congr (h : s.QueuesSound) (hc : t.clc = s.clc) (he : t.mgp.events = s.mgp.events) :
    t.QueuesSound := by
  unfold State.QueuesSound
  rw [hc, he]
  exact h

/-- One CLC replaced by one whose queues are sound. -/
theorem State.QueuesSound.setClc (h : s.QueuesSound) (f : Feed) {c : Clc} (hc : c.QueuesSound) (ht : t.clc = s.clc.set f c)
    (he : t.mgp.events = s.mgp.events) : t.QueuesSound := by
  obtain ⟨hq, hev⟩ := h
  refine ⟨fun g => ?_, he ▸ hev⟩
  rw [ht, PerFeed.get_set]
  split
  · exact hc
  · exact hq g

/-- A change of a CLC that leaves its two queues. -/
theorem State.QueuesSound.keep (h : s.QueuesSound) (f : Feed) {c : Clc} (hc : t.clc = s.clc.set f c)
    (ht : c.timing = (s.clc.get f).timing) (hg : c.general = (s.clc.get f).general)
    (he : t.mgp.events = s.mgp.events) : t.QueuesSound := h.setClc f ((h.1 f).congr ht hg) hc he

theorem State.QueuesSound.chooseFrame (h : s.QueuesSound) (f : Feed) : (s.chooseFrame f).QueuesSound := by
  obtain ⟨d, heq, hd⟩ := s.chooseFrame_spec f
  rw [heq]
  exact h.setClc f ((h.1 f).advanced hd) rfl rfl

theorem State.QueuesSound.offerTiming (h : s.QueuesSound) (f : Feed) (n : TimingNotice) :
    (s.offerTiming f n).QueuesSound := by
  unfold State.offerTiming
  split
  · exact h.keep f rfl rfl rfl rfl
  · have queued : (s.setClc f ((s.clc.get f).queueTiming n)).QueuesSound :=
      h.setClc f ((h.1 f).queueTiming n) rfl rfl
    exact queued.chooseFrame f

theorem State.QueuesSound.offerGeneral (h : s.QueuesSound) (f : Feed) (n : GeneralNotice) :
    (s.offerGeneral f n).QueuesSound := by
  unfold State.offerGeneral
  split
  · exact h.keep f rfl rfl rfl rfl
  · have queued : (s.setClc f ((s.clc.get f).queueGeneral n)).QueuesSound :=
      h.setClc f ((h.1 f).queueGeneral n) rfl rfl
    exact queued.chooseFrame f

@[simp] theorem Clc.setBuffer_timing (c : Clc) (b : BufNo) (x : Buffer) : (c.setBuffer b x).timing = c.timing := by
  cases b <;> rfl

@[simp] theorem Clc.setBuffer_general (c : Clc) (b : BufNo) (x : Buffer) : (c.setBuffer b x).general = c.general := by
  cases b <;> rfl

@[simp] theorem Clc.closeReport_timing (c : Clc) (next : ReportState) : (c.closeReport next).timing = c.timing := by
  unfold Clc.closeReport
  split <;> simp

@[simp] theorem Clc.closeReport_general (c : Clc) (next : ReportState) : (c.closeReport next).general = c.general := by
  unfold Clc.closeReport
  split <;> simp

theorem State.Runs.queuesSound (h : s.Runs t) (hs : s.QueuesSound) : t.QueuesSound := by
  induction h with
  | trans h k ih ik => exact ik (ih hs)
  | quiet h => exact hs.congr h.clc h.events
  | event s e => exact ⟨hs.1, hs.2.offer e⟩
  | eventTaken s e rest he => exact ⟨hs.1, eventsSound.tail (he ▸ hs.2)⟩
  | timing s f n => exact hs.offerTiming f n
  | general s f n => exact hs.offerGeneral f n
  | chose s f => exact hs.chooseFrame f
  | lined s f => exact hs.keep f rfl rfl rfl rfl
  | answered s f => exact hs.keep f rfl rfl rfl rfl
  | fetched s f => exact hs.keep f rfl rfl rfl rfl
  | slotEnded s f => exact hs.keep f rfl rfl rfl rfl
  | flushed s f => exact hs.setClc f ⟨by simp [Clc.flush], by simp [Clc.flush], List.Pairwise.nil⟩ rfl rfl
  | purged s f n =>
    have hleft := (hs.1 f).sublist
      (d := { s.clc.get f with general := (s.clc.get f).general.filter fun g => !g.concerns n })
      (List.Sublist.refl _) List.filter_sublist
    exact hs.setClc f hleft rfl rfl
  | reportIdled s f => exact hs.keep f rfl rfl rfl rfl
  | reportOpened s f => exact hs.keep f rfl (by simp [Clc.startReport]) (by simp [Clc.startReport]) rfl
  | reportExtended s f => exact hs.keep f rfl (by simp [Clc.startReport]) (by simp [Clc.startReport]) rfl
  | reportFilled s f => exact hs.keep f rfl (by simp) (by simp) rfl
  | reportEnded s f => exact hs.keep f rfl (by simp) (by simp) rfl
  | foldTaken s r => exact hs.keep r.feed rfl (by simp) (by simp) rfl
  | foldEnded s b => exact hs.keep b.feed rfl (by simp) (by simp) rfl
  | _ => exact hs.congr (by simp) (by simp)

/-- The CLCs and the event queue stand while a table changes. -/
theorem State.QueuesSound.then_runs {u : State} (hs : s.QueuesSound) (h : u.Runs t) (hc : u.clc = s.clc)
    (he : u.mgp.events = s.mgp.events) : t.QueuesSound := h.queuesSound (hs.congr hc he)

theorem State.Effect.queuesSound (hs : s.QueuesSound) (h : s.Effect t) : t.QueuesSound := by
  cases h.progress with
  | runs h => exact h.queuesSound hs
  | configured m hm f offset beaconLen a bs hremote h => exact hs.then_runs h (by simp) (by simpa using hm)
  | admitted m hm n f a hn hfree haddress h => exact hs.then_runs h (by simp) (by simpa using hm)
  | removed m hm n x hn hx hrefs h =>
    exact hs.then_runs h (by simp [State.vacate]) (by simpa [State.vacate] using hm)
  | created m hm n e hcan hfree h => exact hs.then_runs h (by simp) (by simpa using hm)
  | deleted m hm n e he hrefs h => exact hs.then_runs h (by simp) (by simpa using hm)

/-! ### Fetch claims and MAP_DATA responses (R164, R176) -/

/-- The response in the slot of a CLC, begun or not. -/
def Clc.slotResponse (c : Clc) : Option Response := c.slot.map (·.response)

theorem State.claimsMatch_iff :
    s.ClaimsMatchSlots ↔ ∀ f, (s.claims.get f).isSome = true ↔ (s.clc.get f).slotResponse = some .mapData := Iff.rfl

/-- Each cycle link holds a claim as before, and its slot the same response. -/
theorem State.ClaimsMatchSlots.congr (h : s.ClaimsMatchSlots)
    (hc : ∀ f, (t.claims.get f).isSome = (s.claims.get f).isSome)
    (hr : ∀ f, (t.clc.get f).slotResponse = (s.clc.get f).slotResponse) : t.ClaimsMatchSlots := by
  rw [State.claimsMatch_iff] at h ⊢
  intro f
  rw [hc, hr]
  exact h f

theorem State.ClaimsMatchSlots.of_eq (h : s.ClaimsMatchSlots) (hc : t.claims = s.claims) (hr : t.clc = s.clc) :
    t.ClaimsMatchSlots := h.congr (fun _ => by rw [hc]) (fun _ => by rw [hr])

/-- One CLC replaced by one whose slot holds the same response. -/
theorem State.ClaimsMatchSlots.keep (h : s.ClaimsMatchSlots) (f : Feed) {c : Clc} (hc : t.claims = s.claims)
    (ht : t.clc = s.clc.set f c) (hr : c.slotResponse = (s.clc.get f).slotResponse) : t.ClaimsMatchSlots := by
  refine h.congr (fun _ => by rw [hc]) fun g => ?_
  rw [ht, PerFeed.get_set]
  split
  · rename_i hg
    rw [hr, hg]
  · rfl

/-- Cycle link f placed anew, with claim and slot in agreement. -/
theorem State.ClaimsMatchSlots.set (h : s.ClaimsMatchSlots) (f : Feed) {c : Clc} {x : Option FetchClaim}
    (hc : t.claims = s.claims.set f x) (ht : t.clc = s.clc.set f c)
    (hr : x.isSome = true ↔ c.slotResponse = some .mapData) : t.ClaimsMatchSlots := by
  rw [State.claimsMatch_iff] at h ⊢
  intro g
  rw [hc, ht, PerFeed.get_set, PerFeed.get_set]
  split
  · exact hr
  · exact h g

theorem Clc.Offered.slotResponse {c d : Clc} (h : c.Offered d) : d.slotResponse = c.slotResponse := by
  obtain h | ⟨sl, h1, h2⟩ := h.slot
  · rw [Clc.slotResponse, Clc.slotResponse, h]
  · rw [Clc.slotResponse, Clc.slotResponse, h1, h2]
    rfl

theorem State.ClaimsMatchSlots.answer (h : s.ClaimsMatchSlots) {f : Feed} (hslot : (s.clc.get f).slot = none) {tag : Byte}
    {r : Response} (hr : r ≠ .mapData) :
    (s.setClc f { s.clc.get f with slot := some ⟨tag, r, false⟩ }).ClaimsMatchSlots := by
  have hnone : (s.claims.get f).isSome ≠ true := fun hsome => by
    have := (State.claimsMatch_iff.1 h f).1 hsome
    simp [Clc.slotResponse, hslot] at this
  refine h.set f (x := s.claims.get f) (by simp) rfl ⟨fun hsome => absurd hsome hnone, fun hmap => ?_⟩
  exact absurd (Option.some.inj hmap) hr

theorem State.Runs.claimsMatch (h : s.Runs t) (hs : s.ClaimsMatchSlots) : t.ClaimsMatchSlots := by
  induction h with
  | trans h k ih ik => exact ik (ih hs)
  | quiet h => exact hs.of_eq h.claims h.clc
  | timing s f n =>
    obtain ⟨d, heq, hd, -⟩ := s.offerTiming_spec f n
    rw [heq]
    exact hs.keep f rfl rfl hd.slotResponse
  | general s f n =>
    obtain ⟨d, heq, hd, -⟩ := s.offerGeneral_spec f n
    rw [heq]
    exact hs.keep f rfl rfl hd.slotResponse
  | chose s f =>
    obtain ⟨d, heq, hd⟩ := s.chooseFrame_spec f
    rw [heq]
    exact hs.keep f rfl rfl hd.offered.slotResponse
  | lined s f => exact hs.keep f rfl rfl rfl
  | answered s f tag r hslot hr => exact hs.answer hslot hr
  | fetched s f => exact hs.set f rfl rfl (by simp [Clc.slotResponse])
  | slotEnded s f => exact hs.set f rfl rfl (by simp [Clc.slotResponse])
  | flushed s f => exact hs.set f rfl rfl (by simp [Clc.slotResponse, Clc.flush])
  | purged s f n => exact hs.keep f rfl rfl rfl
  | reportIdled s f => exact hs.keep f rfl rfl rfl
  | reportOpened s f => exact hs.keep f rfl rfl (by simp [Clc.slotResponse])
  | reportExtended s f => exact hs.keep f rfl rfl (by simp [Clc.slotResponse])
  | reportFilled s f => exact hs.keep f rfl rfl (by simp [Clc.slotResponse])
  | reportEnded s f => exact hs.keep f rfl rfl (by simp [Clc.slotResponse])
  | foldTaken s r => exact hs.keep r.feed rfl rfl (by simp [Clc.slotResponse])
  | foldEnded s b => exact hs.keep b.feed rfl rfl (by simp [Clc.slotResponse])
  | switched s l k n => exact hs.congr (fun f => by rw [State.eachClaim_get, Option.isSome_map]; rfl) (fun _ => rfl)
  | _ => exact hs.of_eq (by simp) (by simp)

theorem State.freeLink_claims (s : State) (l : LinkNo) (f : Feed) :
    ((s.freeLink l).claims.get f).isSome = (s.claims.get f).isSome := by
  unfold State.freeLink
  split
  · rfl
  · rw [State.eachClaim_get, Option.isSome_map]
    rfl

theorem State.Effect.claimsMatch (hs : s.ClaimsMatchSlots) (h : s.Effect t) : t.ClaimsMatchSlots := by
  cases h.progress with
  | runs h => exact h.claimsMatch hs
  | configured m hm f offset beaconLen a bs hremote h => exact h.claimsMatch (hs.of_eq (by simp) (by simp))
  | admitted m hm n f a hn hfree haddress h => exact h.claimsMatch (hs.of_eq (by simp) (by simp))
  | removed m hm n x hn hx hrefs h =>
    refine h.claimsMatch (hs.congr (fun f => ?_) fun f => by simp [State.vacate])
    rw [State.vacate, State.freeLink_claims, State.freeLink_claims]
    rfl
  | created m hm n e hcan hfree h => exact h.claimsMatch (hs.of_eq (by simp) (by simp))
  | deleted m hm n e he hrefs h => exact h.claimsMatch (hs.of_eq (by simp) (by simp))

end Queues

theorem State.reset_queuesSound : State.reset.QueuesSound :=
  ⟨fun f => by simp [State.reset, Clc.reset, Clc.QueuesSound], by simp [State.reset, Mgp.reset, eventsSound]⟩

theorem State.reset_claimsMatch : State.reset.ClaimsMatchSlots := fun f => by simp [State.reset, Clc.reset]

/-- Settles O16: an offer keeps a queue within its size and without a second notice for a link, and a slot is filled and
emptied together with its fetch claim. -/
theorem stepsKeepQueuesAndSlotsSound : Obligations.StepsKeepQueuesAndSlotsSound :=
  ⟨fun _ _ hs h => step_keeps State.reset_queuesSound (fun _ _ _ _ hs => hs) (fun _ _ hs he => he.queuesSound hs) hs h,
    fun _ _ hs h => step_keeps State.reset_claimsMatch (fun _ _ _ _ hs => hs) (fun _ _ hs he => he.claimsMatch hs) hs h⟩

end Sys2Proof.Machine
end

section
/-! Chapter 6, the report buffers with the report states, the fold queue and the fold in hand (R97, R98, R110, R111): the
invariant of O13. -/
namespace Sys2Proof.Machine

theorem Clc.buffer_setBuffer (c : Clc) (a b : BufNo) (x : Buffer) :
    (c.setBuffer b x).buffer a = if a = b then x else c.buffer a := by
  split
  · rename_i h
    rw [h, Clc.buffer_setBuffer_self]
  · rename_i h
    exact Clc.buffer_setBuffer_of_ne c h x

@[simp] theorem Clc.setBuffer_report (c : Clc) (b : BufNo) (x : Buffer) : (c.setBuffer b x).report = c.report := by
  cases b <;> rfl

@[simp] theorem Clc.buffer_withReport (c : Clc) (st : ReportState) (b : BufNo) :
    ({ c with report := st } : Clc).buffer b = c.buffer b := by cases b <;> rfl

theorem Clc.startReport_buffer (c : Clc) (a b : BufNo) (r : Report) (gap : Nat) :
    (c.startReport b r gap).buffer a = if a = b then .filling r else c.buffer a := Clc.buffer_setBuffer ..

/-- The buffers and the report state of one CLC agree with each other, with the buffers that stand in the fold queue and
with the one being folded. -/
structure Clc.ReportsFit (c : Clc) (queued folding : BufNo → Prop) : Prop where
  filling : ∀ b, (c.buffer b).isFilling = true ↔ ∃ gap, c.report = .open_ b gap
  full : ∀ b, (c.buffer b).isFull = true ↔ queued b
  folding : ∀ b, (c.buffer b).isFolding = true ↔ folding b

/-- The engine folds a buffer. -/
def Planner.folds (p : Planner) (f : Feed) (b : BufNo) : Prop := p.engine = .folding ⟨f, b⟩

theorem State.reportsSound_iff {s : State} :
    s.ReportsSound ↔ s.planner.foldQueue.Nodup ∧
      ∀ f, (s.clc.get f).ReportsFit (⟨f, ·⟩ ∈ s.planner.foldQueue) (s.planner.folds f) :=
  ⟨fun ⟨h1, h2, h3, h4⟩ => ⟨h3, fun f => ⟨h1 f, h2 f, h4 f⟩⟩,
    fun ⟨h3, h⟩ => ⟨fun f => (h f).filling, fun f => (h f).full, h3, fun f => (h f).folding⟩⟩

namespace Clc.ReportsFit

variable {c d : Clc} {queued folding : BufNo → Prop}

theorem congr (h : c.ReportsFit queued folding) (hb : ∀ b, d.buffer b = c.buffer b) (hr : d.report = c.report) :
    d.ReportsFit queued folding := by
  obtain ⟨h1, h2, h3⟩ := h
  exact ⟨fun b => by rw [hb, hr]; exact h1 b, fun b => by rw [hb]; exact h2 b, fun b => by rw [hb]; exact h3 b⟩

theorem offered (h : c.ReportsFit queued folding) (hd : c.Offered d) : d.ReportsFit queued folding :=
  h.congr hd.buffer hd.report

/-- A buffer that is FREE and a report state that is not OPEN take a report. -/
theorem opened (h : c.ReportsFit queued folding) (hnot : ∀ b gap, c.report ≠ .open_ b gap) {b : BufNo}
    (hfree : c.buffer b = .free) (r : Report) (gap : Nat) : (c.startReport b r gap).ReportsFit queued folding := by
  obtain ⟨h1, h2, h3⟩ := h
  have hb (a : BufNo) := c.startReport_buffer a b r gap
  have hnotfull : ¬ queued b := fun hq => by
    have := (h2 b).2 hq
    rw [hfree] at this
    cases this
  have hnotfold : ¬ folding b := fun hq => by
    have := (h3 b).2 hq
    rw [hfree] at this
    cases this
  refine ⟨fun a => ?_, fun a => ?_, fun a => ?_⟩ <;> rw [hb] <;> split
  · rename_i hab
    exact ⟨fun _ => ⟨gap, by rw [hab, Clc.startReport_report]⟩, fun _ => rfl⟩
  · rename_i hab
    rw [h1, Clc.startReport_report]
    exact ⟨fun ⟨g, hg⟩ => absurd hg (hnot a g), fun ⟨g, hg⟩ => absurd (ReportState.open_.inj hg).1.symm hab⟩
  · rename_i hab
    rw [hab]
    exact ⟨nofun, fun hq => absurd hq hnotfull⟩
  · exact h2 a
  · rename_i hab
    rw [hab]
    exact ⟨nofun, fun hq => absurd hq hnotfold⟩
  · exact h3 a

end Clc.ReportsFit

theorem Clc.openReport_spec {c : Clc} {b : BufNo} {r : Report} (h : c.openReport = some (b, r)) :
    (∃ gap, c.report = .open_ b gap) ∧ c.buffer b = .filling r := by
  unfold Clc.openReport at h
  split at h
  · rename_i b' gap hreport
    split at h
    · rename_i hbuf
      cases h
      exact ⟨⟨gap, hreport⟩, hbuf⟩
    · cases h
  · cases h

namespace Clc.ReportsFit

variable {c : Clc} {queued folding : BufNo → Prop}

theorem eq_open (h : c.ReportsFit queued folding) {b : BufNo} (ho : ∃ gap, c.report = .open_ b gap) (a : BufNo) :
    (c.buffer a).isFilling = true ↔ a = b := by
  obtain ⟨g, hg⟩ := ho
  rw [h.filling, hg]
  exact ⟨fun ⟨_, h⟩ => (ReportState.open_.inj h).1.symm, fun h => ⟨g, by rw [h]⟩⟩

/-- The open report's buffer takes another content that is no longer being filled, and the report state is not OPEN. -/
theorem ended (h : c.ReportsFit queued folding) {b : BufNo} {r : Report} (ho : c.openReport = some (b, r)) {x : Buffer}
    (hx : x.isFilling = false) (hxf : x.isFolding = false) {d : Clc} (hd : ∀ a, d.buffer a = if a = b then x else c.buffer a)
    (hr : ∀ a gap, d.report ≠ .open_ a gap) {queued' : BufNo → Prop} (hq : ∀ a, a ≠ b → (queued' a ↔ queued a))
    (hqb : x.isFull = true ↔ queued' b) : d.ReportsFit queued' folding := by
  obtain ⟨hopen, hbuf⟩ := Clc.openReport_spec ho
  refine ⟨fun a => ?_, fun a => ?_, fun a => ?_⟩ <;> rw [hd]
  · have hno : ¬ ∃ gap, d.report = .open_ a gap := fun ⟨g, hg⟩ => hr a g hg
    split
    · simp [hx, hno]
    · rename_i hab
      have := (h.eq_open hopen a).not.2 hab
      simp only [hno, iff_false]
      exact this
  · split
    · rename_i hab
      rw [hab]
      exact hqb
    · rename_i hab
      rw [hq a hab]
      exact h.full a
  · split
    · rename_i hab
      have hwas := h.folding b
      rw [hbuf] at hwas
      rw [hab, hxf, ← hwas]
      rfl
    · exact h.folding a

/-- The open report takes another block. -/
theorem extended (h : c.ReportsFit queued folding) {b : BufNo} {r : Report} (ho : c.openReport = some (b, r))
    (r' : Report) (gap : Nat) : (c.startReport b r' gap).ReportsFit queued folding := by
  obtain ⟨hopen, hbuf⟩ := Clc.openReport_spec ho
  have same {p : Buffer → Bool} (hp : p (.filling r') = p (.filling r)) (a : BufNo) :
      p ((c.startReport b r' gap).buffer a) = p (c.buffer a) := by
    rw [Clc.startReport_buffer]
    split
    · rename_i hab
      rw [hab, hbuf, hp]
    · rfl
  refine ⟨fun a => ?_, fun a => ?_, fun a => ?_⟩
  · rw [same (p := Buffer.isFilling) rfl, h.eq_open hopen, Clc.startReport_report]
    exact ⟨fun hab => ⟨gap, by rw [hab]⟩, fun ⟨_, hg⟩ => (ReportState.open_.inj hg).1.symm⟩
  · rw [same (p := Buffer.isFull) rfl]
    exact h.full a
  · rw [same (p := Buffer.isFolding) rfl]
    exact h.folding a

theorem closeReport (h : c.ReportsFit queued folding) {next : ReportState} (hnext : ∀ b gap, next ≠ .open_ b gap) :
    (c.closeReport next).ReportsFit queued folding := by
  unfold Clc.closeReport
  split
  · rename_i b r ho
    obtain ⟨-, hbuf⟩ := Clc.openReport_spec ho
    refine h.ended ho (x := .free) (d := { c.setBuffer b .free with report := next }) rfl rfl
      (fun a => (Clc.buffer_withReport ..).trans (Clc.buffer_setBuffer c a b .free)) (fun a g => hnext a g)
      (fun _ _ => Iff.rfl) ?_
    have := h.full b
    rw [hbuf] at this
    exact this
  · rename_i hnone
    have hno : ∀ b gap, c.report ≠ .open_ b gap := fun b gap hr => by
      have hfill := (h.filling b).2 ⟨gap, hr⟩
      cases hbuf : c.buffer b with
      | filling r => simp [Clc.openReport, hr, hbuf] at hnone
      | _ => simp [hbuf, Buffer.isFilling] at hfill
    refine ⟨fun b => ?_, fun b => h.full b, fun b => h.folding b⟩
    exact (h.filling b).trans ⟨fun ⟨g, hg⟩ => absurd hg (hno b g), fun ⟨g, hg⟩ => absurd hg (hnext b g)⟩

end Clc.ReportsFit

section Reports

variable {s t : State}

theorem State.ReportsSound.fit (h : s.ReportsSound) (f : Feed) :
    (s.clc.get f).ReportsFit (⟨f, ·⟩ ∈ s.planner.foldQueue) (s.planner.folds f) := (State.reportsSound_iff.1 h).2 f

/-- The buffers and report states of the CLCs, the fold queue and the fold in hand are as they were. -/
theorem State.ReportsSound.congr (h : s.ReportsSound) (hc : t.clc = s.clc)
    (hq : t.planner.foldQueue = s.planner.foldQueue)
    (he : ∀ r, t.planner.engine = .folding r ↔ s.planner.engine = .folding r) : t.ReportsSound := by
  obtain ⟨h1, h2, h3, h4⟩ := h
  exact ⟨by rw [hc]; exact h1, by rw [hc, hq]; exact h2, by rw [hq]; exact h3,
    fun f b => by rw [hc, he]; exact h4 f b⟩

/-- One CLC replaced, with the Planner as it was. -/
theorem State.ReportsSound.setClc (h : s.ReportsSound) (f : Feed) {c : Clc} (ht : t.clc = s.clc.set f c)
    (hp : t.planner = s.planner) (hc : c.ReportsFit (⟨f, ·⟩ ∈ s.planner.foldQueue) (s.planner.folds f)) :
    t.ReportsSound := by
  rw [State.reportsSound_iff] at h ⊢
  rw [hp]
  refine ⟨h.1, fun g => ?_⟩
  rw [ht, PerFeed.get_set]
  split
  · rename_i hg
    subst hg
    exact hc
  · exact h.2 g

theorem State.ReportsSound.keep (h : s.ReportsSound) (f : Feed) {c : Clc} (ht : t.clc = s.clc.set f c)
    (hp : t.planner = s.planner) (hb : ∀ b, c.buffer b = (s.clc.get f).buffer b)
    (hr : c.report = (s.clc.get f).report) : t.ReportsSound := h.setClc f ht hp ((h.fit f).congr hb hr)

theorem State.ReportsSound.fill (h : s.ReportsSound) {f : Feed} {b : BufNo} {r : Report}
    (ho : (s.clc.get f).openReport = some (b, r)) (r' : Report) :
    ((s.setClc f { (s.clc.get f).setBuffer b (.full r') with report := .idle }).setPlanner
      { s.planner with foldQueue := s.planner.foldQueue ++ [⟨f, b⟩] }).ReportsSound := by
  have hfit := h.fit f
  obtain ⟨-, hbuf⟩ := Clc.openReport_spec ho
  have hnew : (⟨f, b⟩ : BufRef) ∉ s.planner.foldQueue := fun hm => by
    have := (hfit.full b).2 hm
    rw [hbuf] at this
    cases this
  rw [State.reportsSound_iff] at h ⊢
  refine ⟨List.nodup_append'.2 ⟨h.1, List.nodup_singleton _, List.disjoint_singleton.2 hnew⟩, fun g => ?_⟩
  simp only [State.setPlanner_clc, State.setPlanner_planner, State.setClc_clc, PerFeed.get_set]
  split
  · rename_i hg
    subst hg
    refine hfit.ended ho (x := .full r') (d := { (s.clc.get g).setBuffer b (.full r') with report := .idle }) rfl rfl
      (fun a => (Clc.buffer_withReport ..).trans (Clc.buffer_setBuffer _ a b _)) (fun _ _ => nofun)
      (queued' := (⟨g, ·⟩ ∈ s.planner.foldQueue ++ [⟨g, b⟩])) (fun a ha => ?_) ?_
    · simp [ha]
    · simp [Buffer.isFull]
  · rename_i hg
    obtain ⟨h1, h2, h3⟩ := h.2 g
    refine ⟨h1, fun a => ?_, h3⟩
    simp only [List.mem_append, List.mem_singleton, BufRef.mk.injEq, hg, false_and, or_false]
    exact h2 a

theorem State.ReportsSound.takeFold (h : s.ReportsSound) {r : BufRef} {rest : List BufRef}
    (hidle : s.planner.engine = .idle) (hq : s.planner.foldQueue = r :: rest) :
    ((s.setBuffer r ((s.clc.get r.feed).buffer r.buf).startFold).setPlanner
      { s.planner with engine := .folding r, foldQueue := rest }).ReportsSound := by
  have hfull := (h.fit r.feed).full r.buf
  obtain ⟨x, hx⟩ : ∃ x, (s.clc.get r.feed).buffer r.buf = .full x := by
    have := hfull.2 (by rw [hq]; simp)
    cases hb : (s.clc.get r.feed).buffer r.buf <;> simp [hb, Buffer.isFull] at this
    exact ⟨_, rfl⟩
  rw [State.reportsSound_iff] at h ⊢
  rw [hq, List.nodup_cons] at h
  obtain ⟨⟨hr, hnodup⟩, hfits⟩ := h
  have hfolds : ∀ f b, ¬ s.planner.folds f b := fun f b hf => by
    rw [Planner.folds, hidle] at hf
    cases hf
  refine ⟨hnodup, fun g => ?_⟩
  obtain ⟨h1, h2, h3⟩ := hfits g
  have hbuf (b : BufNo) : (((s.setBuffer r (.folding x)).clc.get g).buffer b) =
      if (⟨g, b⟩ : BufRef) = r then .folding x else (s.clc.get g).buffer b := by
    obtain ⟨rf, rb⟩ := r
    simp only [State.setBuffer, State.setClc_clc, PerFeed.get_set, BufRef.mk.injEq]
    by_cases hg : g = rf
    · subst hg
      simp [Clc.buffer_setBuffer]
    · simp [hg]
  have hreport : ((s.setBuffer r (.folding x)).clc.get g).report = (s.clc.get g).report := by
    simp only [State.setBuffer, State.setClc_clc, PerFeed.get_set]
    split
    · rename_i hg
      rw [Clc.setBuffer_report, hg]
    · rfl
  simp only [hx, Buffer.startFold, State.setPlanner_clc, State.setPlanner_planner]
  refine ⟨fun b => ?_, fun b => ?_, fun b => ?_⟩ <;> rw [hbuf]
  · rw [hreport, ← h1]
    split
    · rename_i hb
      subst hb
      rw [hx]
      exact Iff.rfl
    · rfl
  · split
    · rename_i hb
      simp [Buffer.isFull, hb, hr]
    · rename_i hb
      rw [h2, List.mem_cons]
      simp [hb]
  · split
    · rename_i hb
      simp [Buffer.isFolding, Planner.folds, hb]
    · rename_i hb
      rw [h3]
      exact iff_of_false (hfolds g b) fun hf => hb (Engine.folding.inj hf).symm

theorem State.ReportsSound.endFold (h : s.ReportsSound) {r : BufRef} (hr : s.planner.engine = .folding r) :
    ((s.setBuffer r .free).setPlanner { s.planner with engine := .idle }).ReportsSound := by
  rw [State.reportsSound_iff] at h ⊢
  refine ⟨h.1, fun g => ?_⟩
  obtain ⟨h1, h2, h3⟩ := h.2 g
  have hbuf (b : BufNo) : (((s.setBuffer r .free).clc.get g).buffer b) =
      if (⟨g, b⟩ : BufRef) = r then .free else (s.clc.get g).buffer b := by
    obtain ⟨rf, rb⟩ := r
    simp only [State.setBuffer, State.setClc_clc, PerFeed.get_set, BufRef.mk.injEq]
    by_cases hg : g = rf
    · subst hg
      simp [Clc.buffer_setBuffer]
    · simp [hg]
  have hreport : ((s.setBuffer r .free).clc.get g).report = (s.clc.get g).report := by
    simp only [State.setBuffer, State.setClc_clc, PerFeed.get_set]
    split
    · rename_i hg
      rw [Clc.setBuffer_report, hg]
    · rfl
  have hfolding : ∀ b, (⟨g, b⟩ : BufRef) = r → ∃ x, (s.clc.get g).buffer b = .folding x := fun b hb => by
    have := (h3 b).2 (by rw [Planner.folds, hr, hb])
    cases hc : (s.clc.get g).buffer b <;> simp [hc, Buffer.isFolding] at this
    exact ⟨_, rfl⟩
  refine ⟨fun b => ?_, fun b => ?_, fun b => ?_⟩ <;> simp only [State.setPlanner_clc, State.setPlanner_planner, hbuf]
  · rw [hreport, ← h1]
    split
    · rename_i hb
      obtain ⟨x, hx⟩ := hfolding b hb
      rw [hx]
      exact Iff.rfl
    · rfl
  · split
    · rename_i hb
      obtain ⟨x, hx⟩ := hfolding b hb
      rw [← h2, hx]
      exact Iff.rfl
    · exact h2 b
  · split
    · simp [Buffer.isFolding, Planner.folds]
    · rename_i hb
      rw [h3, Planner.folds, Planner.folds, hr]
      simp only [Engine.folding.injEq, reduceCtorEq, iff_false]
      exact fun h => hb h.symm

theorem Engine.job_not_folding {e : Engine} {x : PlanJob × List ZoneMap} (h : e.job = some x) (r : BufRef) :
    e ≠ .folding r := fun he => by
  rw [he] at h
  cases h

theorem State.takePlan_planner (s : State) (e : PlanEntry) {rest : Planner} (hidle : rest.engine = .idle) :
    (s.takePlan e rest).planner.foldQueue = rest.foldQueue ∧ ∀ r, (s.takePlan e rest).planner.engine ≠ .folding r := by
  unfold State.takePlan
  split
  · simp [hidle]
  · simp only [State.setPlanner_planner]
    split
    · simp [hidle]
    · exact ⟨rfl, nofun⟩

@[simp] theorem Planner.offerNormal_foldQueue (p : Planner) (l : LinkNo) :
    (p.offerNormal l).foldQueue = p.foldQueue := by
  unfold Planner.offerNormal
  split <;> rfl

@[simp] theorem Planner.offerUrgent_foldQueue (p : Planner) (l : LinkNo) (c : Cause) :
    (p.offerUrgent l c).foldQueue = p.foldQueue := by
  unfold Planner.offerUrgent
  split <;> rfl

theorem State.Runs.reportsSound (h : s.Runs t) (hs : s.ReportsSound) : t.ReportsSound := by
  induction h with
  | trans h k ih ik => exact ik (ih hs)
  | quiet h => exact hs.congr h.clc (by rw [h.planner]) (fun _ => by rw [h.planner])
  | timing s f n =>
    obtain ⟨d, heq, hd, -⟩ := s.offerTiming_spec f n
    rw [heq]
    exact hs.keep f rfl rfl hd.buffer hd.report
  | general s f n =>
    obtain ⟨d, heq, hd, -⟩ := s.offerGeneral_spec f n
    rw [heq]
    exact hs.keep f rfl rfl hd.buffer hd.report
  | chose s f =>
    obtain ⟨d, heq, hd⟩ := s.chooseFrame_spec f
    rw [heq]
    exact hs.keep f rfl rfl hd.buffer hd.report
  | lined s f => exact hs.keep f rfl rfl (fun b => by cases b <;> rfl) rfl
  | answered s f => exact hs.keep f rfl rfl (fun b => by cases b <;> rfl) rfl
  | fetched s f => exact hs.keep f rfl rfl (fun b => by cases b <;> rfl) rfl
  | slotEnded s f => exact hs.keep f rfl rfl (fun b => by cases b <;> rfl) rfl
  | flushed s f =>
    refine hs.keep f rfl rfl (fun b => ?_) ?_
    · unfold Clc.flush Clc.cutFrame
      cases b <;> (split <;> rfl)
    · unfold Clc.flush Clc.cutFrame
      split <;> rfl
  | purged s f n => exact hs.keep f rfl rfl (fun b => by cases b <;> rfl) rfl
  | reportIdled s f hnot =>
    have hfit := hs.fit f
    refine hs.setClc f rfl rfl ⟨fun b => ?_, fun b => ?_, fun b => ?_⟩
    · have := hfit.filling b
      exact this.trans ⟨fun ⟨g, hg⟩ => absurd hg (hnot b g), fun ⟨_, hg⟩ => nomatch hg⟩
    · exact hfit.full b
    · exact hfit.folding b
  | reportOpened s f b r gap hnot hfree =>
    refine hs.setClc f rfl rfl ((hs.fit f).opened hnot ?_ r gap)
    unfold Clc.freeBuffer at hfree
    split at hfree
    · cases hfree
      assumption
    · split at hfree
      · cases hfree
        assumption
      · cases hfree
  | reportExtended s f b r r' gap ho =>
    exact hs.setClc f rfl rfl ((hs.fit f).extended ho r' gap)
  | reportFilled s f b r r' ho => exact hs.fill ho r'
  | reportEnded s f next hnext => exact hs.setClc f rfl rfl ((hs.fit f).closeReport hnext)
  | foldTaken s r rest hidle hq => exact hs.takeFold hidle hq
  | foldEnded s b hb => exact hs.endFold hb
  | planTaken s e rest hidle hnext =>
    obtain ⟨hengine, hqueue, -⟩ := Planner.nextPlan_spec hnext
    obtain ⟨hq, hno⟩ := s.takePlan_planner e (hengine.trans hidle)
    exact hs.congr (by simp) (hq.trans hqueue) fun r => by simp [hno, hidle]
  | planOffered s l => exact hs.congr rfl (by simp [State.offerPlan]) (fun r => by simp [State.offerPlan])
  | urgentOffered s l => exact hs.congr rfl (by simp [State.offerUrgent]) (fun r => by simp [State.offerUrgent])
  | planWaits s job zones hjob => exact hs.congr rfl rfl fun r => by simp [hjob]
  | planDropped s job zones hjob => exact hs.congr rfl rfl fun r => by simp [Engine.job_not_folding hjob]
  | planPublished s job zones k hjob => exact hs.congr rfl rfl fun r => by simp [Engine.job_not_folding hjob]
  | _ => exact hs.congr (by simp) (by simp) (fun r => by simp)

theorem State.Effect.reportsSound (hs : s.ReportsSound) (h : s.Effect t) : t.ReportsSound := by
  cases h.progress with
  | runs h => exact h.reportsSound hs
  | configured m hm f offset beaconLen a bs hremote h =>
    exact h.reportsSound (hs.congr (by simp) (by simp) (fun r => by simp))
  | admitted m hm n f a hn hfree haddress h => exact h.reportsSound (hs.congr (by simp) (by simp) (fun r => by simp))
  | removed m hm n x hn hx hrefs h =>
    exact h.reportsSound (hs.congr (by simp [State.vacate]) (by simp [State.vacate_planner, Planner.forget])
      (fun r => by simp [State.vacate_planner, Planner.forget]))
  | created m hm n e hcan hfree h => exact h.reportsSound (hs.congr (by simp) (by simp) (fun r => by simp))
  | deleted m hm n e he hrefs h => exact h.reportsSound (hs.congr (by simp) (by simp) (fun r => by simp))

end Reports

theorem State.reset_reportsSound : State.reset.ReportsSound := by
  rw [State.reportsSound_iff]
  refine ⟨List.nodup_nil, fun f => ⟨fun b => ?_, fun b => ?_, fun b => ?_⟩⟩ <;> cases b <;>
    simp [State.reset, Clc.reset, Clc.buffer, Buffer.isFilling, Buffer.isFull, Buffer.isFolding, Planner.folds,
      Planner.reset]

/-- Settles O13: a report moves its buffer, its report state and its place in the fold queue or engine together. -/
theorem stepsKeepReportBuffersSound : Obligations.StepsKeepReportBuffersSound := fun _ _ hs h =>
  step_keeps State.reset_reportsSound (fun _ _ _ _ hs => hs) (fun _ _ hs he => he.reportsSound hs) hs h

end Sys2Proof.Machine
end

section
/-! Section 5.2 and chapter 2, the bookkeeping of banks, stations and streams, said once: which windows are counted (R33),
what counting and releasing a bank makes of the counts of uses, and every command as a run of changes of the books. -/
namespace Sys2Proof.Machine

/-! ### The windows that are counted (R33) -/

/-- The number of windows of a kind and target in the counted banks of a sequencer. -/
def Csq.uses (q : Csq) (k : WindowKind) : Nat := (q.countedBanks.map (·.uses k)).sum

theorem Csq.uses_of_edit {q : Csq} (h : q.pendingState = .edit) (k : WindowKind) : q.uses k = q.currentBank.uses k := by
  simp [Csq.uses, Csq.countedBanks, h]

theorem Csq.uses_of_counting {q : Csq} (h : q.pendingState ≠ .edit) (k : WindowKind) :
    q.uses k = q.currentBank.uses k + q.pendingBank.uses k := by
  cases hp : q.pendingState with
  | edit => exact absurd hp h
  | counting n => simp [Csq.uses, Csq.countedBanks, hp]

/-- The number of counted windows of a kind and target. -/
def State.windowUses (s : State) (k : WindowKind) : Nat := s.countedWindows.count k

theorem State.windowUses_eq (s : State) (k : WindowKind) :
    s.windowUses k = (s.csq.get .a).uses k + (s.csq.get .b).uses k + (s.csq.get .c).uses k := by
  have bank (b : Bank) : (b.slotList.map fun i => (b.slot i).kind).count k = b.uses k := rfl
  simp [State.windowUses, State.countedWindows, feeds, List.count_append, List.count_flatMap, Function.comp_def, Csq.uses,
    bank]
  omega

/-- One sequencer replaced. -/
theorem State.windowUses_set {s t : State} (f : Feed) {q : Csq} (h : t.csq = s.csq.set f q) (k : WindowKind) :
    t.windowUses k + (s.csq.get f).uses k = s.windowUses k + q.uses k := by
  rw [State.windowUses_eq, State.windowUses_eq, h]
  cases f <;> simp only [PerFeed.get, PerFeed.set] <;> omega

theorem State.windowUses_pos {s : State} {k : WindowKind} : 0 < s.windowUses k ↔ k ∈ s.countedWindows :=
  List.count_pos_iff

theorem State.uses_le_windowUses (s : State) (f : Feed) (k : WindowKind) : (s.csq.get f).uses k ≤ s.windowUses k := by
  rw [State.windowUses_eq]
  cases f <;> omega

/-! ### Counting and releasing a bank (R33) -/

theorem State.holdWindow_station (s : State) (w : Window) (n : StationIx) :
    ((s.holdWindow w).station n).refs = (s.station n).refs + if w.kind = .probe n then 1 else 0 := by
  unfold State.holdWindow
  split
  · rename_i h
    rw [h, State.station_congr (s := s) (by simp)]
    simp
  · rename_i m h
    rw [h, State.holdStation, State.station_setStation]
    by_cases hm : n = m
    · simp [hm]
    · simp [hm, Ne.symm hm]
  · rename_i h1 h2
    rw [if_neg fun hk => h2 n hk]
    rfl

theorem State.holdWindow_stream (s : State) (w : Window) (n : StreamNo) :
    ((s.holdWindow w).stream n).refs = (s.stream n).refs + if w.kind = .reserved n then 1 else 0 := by
  unfold State.holdWindow
  split
  · rename_i m h
    rw [h, State.holdStream, State.stream_setStream]
    by_cases hm : n = m
    · simp [hm]
    · simp [hm, Ne.symm hm]
  · rename_i h
    rw [h, State.stream_congr (s := s) (by simp)]
    simp
  · rename_i h1 h2
    rw [if_neg fun hk => h1 n hk]
    rfl

theorem State.dropWindow_station (s : State) (w : Window) (n : StationIx) :
    ((s.dropWindow w).station n).refs = (s.station n).refs - if w.kind = .probe n then 1 else 0 := by
  unfold State.dropWindow
  split
  · rename_i h
    rw [h, State.station_congr (s := s) (by simp)]
    simp
  · rename_i m h
    rw [h, State.dropStation, State.station_setStation]
    by_cases hm : n = m
    · simp [hm]
    · simp [hm, Ne.symm hm]
  · rename_i h1 h2
    rw [if_neg fun hk => h2 n hk]
    rfl

theorem State.dropWindow_stream (s : State) (w : Window) (n : StreamNo) :
    ((s.dropWindow w).stream n).refs = (s.stream n).refs - if w.kind = .reserved n then 1 else 0 := by
  unfold State.dropWindow
  split
  · rename_i m h
    rw [h, State.dropStream, State.stream_setStream]
    by_cases hm : n = m
    · simp [hm]
    · simp [hm, Ne.symm hm]
  · rename_i h
    rw [h, State.stream_congr (s := s) (by simp)]
    simp
  · rename_i h1 h2
    rw [if_neg fun hk => h1 n hk]
    rfl

/-- A count that every entry of a list raises by 1 where it is of a kind. -/
theorem State.forEach_adds {α : Type} {g : State → α → State} {kind : α → WindowKind} {k : WindowKind}
    {count : State → Nat} (h : ∀ s a, count (g s a) = count s + if kind a = k then 1 else 0) (l : List α) (s : State) :
    count (s.forEach l g) = count s + (l.map kind).count k := by
  induction l generalizing s with
  | nil => rfl
  | cons a rest ih =>
    rw [show s.forEach (a :: rest) g = (g s a).forEach rest g from rfl, ih, h, List.map_cons, List.count_cons]
    simp only [beq_iff_eq]
    omega

/-- A count that every entry of a list lowers by 1 where it is of a kind. -/
theorem State.forEach_subtracts {α : Type} {g : State → α → State} {kind : α → WindowKind} {k : WindowKind}
    {count : State → Nat} (h : ∀ s a, count (g s a) = count s - if kind a = k then 1 else 0) (l : List α) (s : State) :
    count (s.forEach l g) = count s - (l.map kind).count k := by
  induction l generalizing s with
  | nil => rfl
  | cons a rest ih =>
    rw [show s.forEach (a :: rest) g = (g s a).forEach rest g from rfl, ih, h, List.map_cons, List.count_cons]
    simp only [beq_iff_eq]
    omega

theorem State.countBank_station (s : State) (b : Bank) (n : StationIx) :
    ((s.countBank b).station n).refs = (s.station n).refs + b.uses (.probe n) :=
  State.forEach_adds (count := fun t => (t.station n).refs) (fun t i => t.holdWindow_station (b.slot i) n) _ s

theorem State.countBank_stream (s : State) (b : Bank) (n : StreamNo) :
    ((s.countBank b).stream n).refs = (s.stream n).refs + b.uses (.reserved n) :=
  State.forEach_adds (count := fun t => (t.stream n).refs) (fun t i => t.holdWindow_stream (b.slot i) n) _ s

theorem State.releaseBank_station (s : State) (b : Bank) (n : StationIx) :
    ((s.releaseBank b).station n).refs = (s.station n).refs - b.uses (.probe n) :=
  State.forEach_subtracts (count := fun t => (t.station n).refs) (fun t i => t.dropWindow_station (b.slot i) n) _ s

theorem State.releaseBank_stream (s : State) (b : Bank) (n : StreamNo) :
    ((s.releaseBank b).stream n).refs = (s.stream n).refs - b.uses (.reserved n) :=
  State.forEach_subtracts (count := fun t => (t.stream n).refs) (fun t i => t.dropWindow_stream (b.slot i) n) _ s

/-! ### Books that stand -/

/-- The banks and their roles, the beacon length and whether the pending bank is COUNTING are as they were, and a
sequencer that is not STOPPED was not. -/
structure Csq.SameBooks (q r : Csq) : Prop where
  bank0 : r.bank0 = q.bank0
  bank1 : r.bank1 = q.bank1
  current : r.current = q.current
  pending : r.pendingState = .edit ↔ q.pendingState = .edit
  beaconLen : r.beaconLen = q.beaconLen
  state : r.state ≠ .stopped → q.state ≠ .stopped

theorem Csq.SameBooks.rfl' (q : Csq) : q.SameBooks q := ⟨rfl, rfl, rfl, Iff.rfl, rfl, id⟩

theorem Csq.SameBooks.trans {q r u : Csq} (h : q.SameBooks r) (k : r.SameBooks u) : q.SameBooks u :=
  ⟨k.bank0.trans h.bank0, k.bank1.trans h.bank1, k.current.trans h.current, k.pending.trans h.pending,
    k.beaconLen.trans h.beaconLen, fun hu => h.state (k.state hu)⟩

theorem Csq.SameBooks.bank {q r : Csq} (h : q.SameBooks r) (n : BankNo) : r.bank n = q.bank n := by
  cases n
  · exact h.bank0
  · exact h.bank1

theorem Csq.SameBooks.currentBank {q r : Csq} (h : q.SameBooks r) : r.currentBank = q.currentBank := by
  rw [Csq.currentBank, Csq.currentBank, h.bank, h.current]

theorem Csq.SameBooks.pendingBank {q r : Csq} (h : q.SameBooks r) : r.pendingBank = q.pendingBank := by
  rw [Csq.pendingBank, Csq.pendingBank, Csq.pendingNo, Csq.pendingNo, h.bank, h.current]

theorem Csq.SameBooks.uses {q r : Csq} (h : q.SameBooks r) (k : WindowKind) : r.uses k = q.uses k := by
  by_cases hp : q.pendingState = .edit
  · rw [Csq.uses_of_edit hp, Csq.uses_of_edit (h.pending.2 hp), h.currentBank]
  · rw [Csq.uses_of_counting hp, Csq.uses_of_counting (mt h.pending.1 hp), h.currentBank, h.pendingBank]

/-- The books of every feed, the members and counts of the stations, and the ends and counts of the streams are as they
were. -/
structure State.SameBooks (s t : State) : Prop where
  books : ∀ f, (s.csq.get f).SameBooks (t.csq.get f)
  member : ∀ n, (t.station n).member = (s.station n).member
  stationRefs : ∀ n, (t.station n).refs = (s.station n).refs
  ends : ∀ n, (t.stream n).state.ends = (s.stream n).state.ends
  streamRefs : ∀ n, (t.stream n).refs = (s.stream n).refs

/-- The ends and counts of the streams are as they were. -/
structure State.SameStreams (s t : State) : Prop where
  ends : ∀ n, (t.stream n).state.ends = (s.stream n).state.ends
  refs : ∀ n, (t.stream n).refs = (s.stream n).refs

theorem State.SameStreams.of_eq {s t : State} (h : t.streams = s.streams) : s.SameStreams t :=
  ⟨fun n => by rw [State.stream_congr h], fun n => by rw [State.stream_congr h]⟩

theorem State.SameStreams.trans {s t u : State} (h : s.SameStreams t) (k : t.SameStreams u) : s.SameStreams u :=
  ⟨fun n => (k.ends n).trans (h.ends n), fun n => (k.refs n).trans (h.refs n)⟩

theorem Stream.follow_ends (x : Stream) (l : LinkNo) (old new : Grade) :
    (x.follow l old new).state.ends = x.state.ends := by
  unfold Stream.follow Stream.suspend Stream.resume
  (repeat' split) <;> simp_all [StreamState.ends]

theorem State.SameStreams.follow (s : State) (l : LinkNo) (old new : Grade) : s.SameStreams (s.streamsFollow l old new) :=
  ⟨fun n => by rw [State.stream_streamsFollow, Stream.follow_ends],
    fun n => by rw [State.stream_streamsFollow, Stream.follow_refs]⟩

theorem State.SameStreams.evaluate (s : State) (l : LinkNo) (k : Link) (trigger : Trigger) (zone : Option Nat) :
    s.SameStreams (s.evaluate l k trigger zone) := by
  simp only [State.evaluate]
  split
  · exact .of_eq (by simp)
  · have recorded : s.SameStreams (s.setRecord l k k.record.evaluated) := .of_eq (by simp)
    exact (recorded.trans (.follow _ l k.record.grade k.record.judge.grade)).trans (.of_eq (by simp [State.announceGrade]))

theorem State.SameStreams.tallyReport (s : State) (l : LinkNo) (k : Link) (zone ok failed : Nat) :
    s.SameStreams (s.tallyReport l k zone ok failed) := by
  simp only [State.tallyReport]
  split
  · exact .evaluate ..
  · exact .of_eq (by simp)

theorem State.SameStreams.idleLink (s : State) (l : LinkNo) : s.SameStreams (s.idleLink l) := by
  simp only [State.idleLink]
  split
  · exact .of_eq rfl
  · split
    · exact .evaluate ..
    · exact .of_eq (by simp)

theorem State.SameStreams.superviseBoundary (s : State) (f : Feed) : s.SameStreams (s.superviseBoundary f) := by
  unfold State.superviseBoundary
  generalize s.liveLinks f = ls
  induction ls generalizing s with
  | nil => exact .of_eq rfl
  | cons l rest ih => exact (SameStreams.idleLink s l).trans (ih _)

theorem State.SameStreams.handBoundary (s : State) (f : Feed) (order : BoundaryOrder) :
    s.SameStreams (s.handBoundary f order) := by
  have store (s : State) : s.SameStreams (s.storeBoundary f) := .of_eq (by simp)
  unfold State.handBoundary
  split
  · exact (store s).trans (.superviseBoundary ..)
  · exact (SameStreams.superviseBoundary s f).trans (store _)

namespace State.SameBooks

variable {s t : State}

theorem of_streams (hc : t.csq = s.csq) (hs : t.stations = s.stations) (hx : s.SameStreams t) : s.SameBooks t :=
  ⟨fun f => by rw [hc]; exact .rfl' _, fun n => by rw [State.station_congr hs], fun n => by rw [State.station_congr hs],
    hx.ends, hx.refs⟩

theorem of_eq (hc : t.csq = s.csq) (hs : t.stations = s.stations) (hx : t.streams = s.streams) : s.SameBooks t :=
  .of_streams hc hs (.of_eq hx)

/-- One sequencer replaced by one with the same books. -/
theorem of_set (f : Feed) {q : Csq} (hc : t.csq = s.csq.set f q) (hq : (s.csq.get f).SameBooks q)
    (hs : t.stations = s.stations) (hx : t.streams = s.streams) : s.SameBooks t where
  books g := by
    rw [hc, PerFeed.get_set]
    split
    · rename_i hg
      exact hg ▸ hq
    · exact .rfl' _
  member n := by rw [State.station_congr hs]
  stationRefs n := by rw [State.station_congr hs]
  ends n := by rw [State.stream_congr hx]
  streamRefs n := by rw [State.stream_congr hx]

end State.SameBooks

/-! ### A command as a run of changes of the books -/

/-- A run of changes of the books: of the banks and their roles, of the members and counts of the stations, and of the
streams. -/
inductive State.Booked : State → State → Prop
  | trans {s t u : State} (h : s.Booked t) (k : t.Booked u) : s.Booked u
  | same {s t : State} (h : s.SameBooks t) : s.Booked t
  | started (s : State) (f : Feed) (hpass : s.checkBank f (s.csq.get f).currentBank = .pass) (st : SeqState) :
      s.Booked (s.setCsq f { s.csq.get f with state := st })
  | edited (s : State) (f : Feed) (b : Bank) (hedit : (s.csq.get f).pendingState = .edit) :
      s.Booked (s.setCsq f ((s.csq.get f).setBank (s.csq.get f).pendingNo b))
  | cancelled (s : State) (f : Feed) : s.Booked (s.cancelPending f)
  | exchanged (s : State) (f : Feed) (hcounting : (s.csq.get f).pendingState ≠ .edit) : s.Booked (s.exchangeRoles f)
  | activated (s : State) (f : Feed) (n : Nat) (hedit : (s.csq.get f).pendingState = .edit)
      (hpass : s.checkBank f (s.csq.get f).pendingBank = .pass) : s.Booked (s.activate f n).1
  | measured (s : State) (f : Feed) (beaconLen : Nat) (hstop : (s.csq.get f).state = .stopped)
      (hedit : (s.csq.get f).pendingState = .edit) :
      s.Booked (s.setCsq f { s.csq.get f with beaconLen := beaconLen })
  | readdressed (s : State) (f : Feed) (a : Byte) :
      s.Booked (s.setStation (localStation f) { s.station (localStation f) with member := some ⟨f, a⟩ })
  | admitted (s : State) (n : StationIx) (f : Feed) (a : Byte) (hn : 3 ≤ n.val) (hfree : (s.station n).member = none) :
      s.Booked (s.enterStation n f a)
  | removed (s : State) (n : StationIx) (hn : 3 ≤ n.val) (hrefs : (s.station n).refs = 0) : s.Booked (s.vacate n)
  | created (s : State) (n : StreamNo) (e : StreamEnds) (hcan : s.canStream e.transmitter e.receiver = true)
      (hfree : (s.stream n).state = .free) : s.Booked (s.createStream n e)
  | deleted (s : State) (n : StreamNo) (e : StreamEnds) (he : (s.stream n).state.ends = some e)
      (hrefs : (s.stream n).refs = 0) :
      s.Booked (((s.dropStation e.transmitter).dropStation e.receiver).setStream n ⟨.free, 0⟩)

namespace State.Booked

variable {s t : State}

theorem of_eq (hc : t.csq = s.csq) (hs : t.stations = s.stations) (hx : t.streams = s.streams) : s.Booked t :=
  .same (.of_eq hc hs hx)

theorem of_set (f : Feed) {q : Csq} (hc : t.csq = s.csq.set f q) (hq : (s.csq.get f).SameBooks q)
    (hs : t.stations = s.stations) (hx : t.streams = s.streams) : s.Booked t := .same (.of_set f hc hq hs hx)

theorem countPending (s : State) (f : Feed) : s.Booked (s.countPending f) := by
  unfold State.countPending
  split
  · exact .of_eq rfl rfl rfl
  · rename_i n hn
    split
    · exact .exchanged s f (by simp [hn])
    · exact .of_set f rfl ⟨rfl, rfl, rfl, by simp [hn], rfl, id⟩ rfl rfl

theorem playBoundary (s : State) (f : Feed) (order : BoundaryOrder) : s.Booked (s.playBoundary f order) := by
  have begun (q : Csq) (hq : (s.csq.get f).SameBooks q) : s.Booked (s.setCsq f q) := .of_set f rfl hq rfl rfl
  have told (s : State) : s.Booked (s.offerBeaconStart f) := .of_eq (by simp) (by simp) (by simp)
  have handed (s : State) : s.Booked (s.handBoundary f order) :=
    .same (.of_streams (by simp) (by simp) (.handBoundary ..))
  exact (((begun { s.csq.get f with currentWindow := none, beaconCount := (s.csq.get f).beaconCount + 1 }
    ⟨rfl, rfl, rfl, Iff.rfl, rfl, id⟩).trans (.countPending _ f)).trans (told _)).trans (handed _)

theorem armStarts (s : State) (f : Feed) : s.Booked (s.armStarts f) := by
  obtain ⟨_, _, _, h⟩ := s.armStarts_csq f
  exact .of_set f h ⟨rfl, rfl, rfl, Iff.rfl, rfl, id⟩ (by simp) (by simp)

theorem playHalf (s : State) (f : Feed) (half : Nat) (o : OriginRecord) (order : BoundaryOrder) :
    s.Booked (s.playHalf f half o order) := by
  have skipped : s.Booked (s.skipUnreached f) :=
    .of_set f (State.skipUnreached_csq s f) ⟨rfl, rfl, rfl, Iff.rfl, rfl, id⟩ (by simp) (by simp)
  have taken (s : State) (x : HalfCycle) : s.Booked (s.setCsq f { s.csq.get f with halfIndex := half, halfCycle := x }) :=
    .of_set f rfl ⟨rfl, rfl, rfl, Iff.rfl, rfl, id⟩ rfl rfl
  have told (s : State) : s.Booked (s.offerZone f 0 0) := .of_eq (by simp) (by simp) (by simp)
  simp only [State.playHalf]
  split
  · exact (((skipped.trans (taken _ _)).trans (.playBoundary ..)).trans (told _)).trans (.armStarts ..)
  · exact ((skipped.trans (taken _ _)).trans (told _)).trans (.armStarts ..)

/-- A sequencer that is not STOPPED enters a state. -/
theorem enterSeq (s : State) (f : Feed) {st : SeqState} (h : (s.csq.get f).state ≠ .stopped ∨ st = .stopped) :
    s.Booked (s.enterSeq f st) := by
  refine .of_set f (State.enterSeq_csq ..) ⟨rfl, rfl, rfl, Iff.rfl, rfl, fun hst => ?_⟩ (by simp) (by simp)
  obtain h | h := h
  · exact h
  · exact absurd h hst

theorem takeOrigin (s : State) (f : Feed) (o : OriginRecord) (order : BoundaryOrder) :
    s.Booked (s.takeOrigin f o order) := by
  obtain heq | ⟨-, heq⟩ | ⟨hwait, heq⟩ := s.takeOrigin_cases f o order <;> rw [heq]
  · exact .of_eq rfl rfl rfl
  · exact .playHalf ..
  · exact (Booked.enterSeq s f (.inl (by simp [hwait]))).trans (.playHalf ..)

theorem afterMains_sameBooks (q : Csq) (new : MainsState) : q.SameBooks (q.afterMains new) := by
  unfold Csq.afterMains
  split
  · rename_i h
    exact ⟨rfl, rfl, rfl, Iff.rfl, rfl, fun _ => by simp [h.1]⟩
  · split
    · rename_i h
      exact ⟨rfl, rfl, rfl, Iff.rfl, rfl, fun _ => by simp [h.1]⟩
    · exact .rfl' q

theorem mainsBecomes (s : State) (f : Feed) (m : Mtu) (order : ChangeOrder) : s.Booked (s.mainsBecomes f m order) := by
  have h := s.mainsBecomes_csq f m order
  split at h
  · exact .of_eq h (by simp) (by simp)
  · exact .of_set f h (afterMains_sameBooks ..) (by simp) (by simp)

theorem endPlayback (s : State) (f : Feed) : s.Booked (s.endPlayback f) :=
  .of_set f (State.endPlayback_csq s f) ⟨rfl, rfl, rfl, Iff.rfl, rfl, id⟩ (by simp) (by simp)

theorem restartSeq (s : State) (f : Feed) : s.Booked (s.restartSeq f) := by
  have stopped (s : State) : s.Booked (s.setCsq f { s.csq.get f with state := .stopped, beaconCount := 0 }) :=
    .of_set f rfl ⟨rfl, rfl, rfl, Iff.rfl, rfl, fun h => absurd rfl h⟩ rfl rfl
  exact ((Booked.endPlayback s f).trans (.cancelled _ f)).trans (stopped _)

theorem configure (s : State) (f : Feed) (hstop : (s.csq.get f).state = .stopped) (offset beaconLen : Nat) (a : Byte)
    (bs : List Nat) : s.Booked (s.configure f offset beaconLen a bs) := by
  have timed (s : State) (m : Mtu) : s.Booked (s.setMtu f m) := .of_eq rfl rfl rfl
  refine (((Booked.cancelled s f).trans (timed _ _)).trans (.measured _ f beaconLen ?_ ?_)).trans (.readdressed _ f a)
  · simpa using hstop
  · simp

end State.Booked

theorem State.OwnerEffect.booked {s t : State} (h : s.OwnerEffect t) : s.Booked t := by
  cases h with
  | configured f offset beaconLen a bs hstop hremote => exact .configure s f hstop offset beaconLen a bs
  | notched f m =>
    exact .of_eq (State.forEach_csq _ _ (by simp) _) (State.forEach_stations _ _ (by simp) _)
      (State.forEach_streams _ _ (by simp) _)
  | started f hstop hpass =>
    exact (Booked.started s f hpass .waitingSync).trans (.of_eq (by simp) (by simp [State.enterSeq]) (by simp [State.enterSeq]))
  | stopped f => exact (Booked.endPlayback s f).trans (.enterSeq _ f (.inr rfl))
  | restarted f => exact (Booked.restartSeq s f).trans (.of_eq (by simp) (by simp) (by simp))
  | edited f b hedit => exact .edited s f b hedit
  | activated f n hedit hpass => exact .activated s f n hedit hpass
  | cancelled f => exact .cancelled s f
  | admitted n f a hn hfree haddress => exact .admitted s n f a hn hfree
  | removed n m hn hm hrefs =>
    rw [State.tearDown_eq]
    exact (Booked.removed s n hn hrefs).trans (.of_eq (by simp) (by simp) (by simp))
  | created n e hcan hfree => exact .created s n e hcan hfree
  | deleted n e he hrefs => exact .deleted s n e he hrefs
  | _ => exact .of_eq (by simp) (by simp) (by simp)

theorem State.FrameEffect.booked {s t : State} {f : Feed} (h : s.FrameEffect f t) : s.Booked t := by
  cases h with
  | delivered tag l k zone ok failed r hr hk hf =>
    have tallied : s.Booked (s.tallyReport l k zone ok failed) :=
      .same (.of_streams (by simp) (by simp) (.tallyReport ..))
    exact tallied.trans (.of_eq (by simp) (by simp) (by simp))
  | _ => exact .of_eq (by simp [State.reportIdled]) (by simp [State.reportIdled]) (by simp [State.reportIdled])

theorem State.Effect.booked {s t : State} (h : s.Effect t) : s.Booked t := by
  cases h with
  | port t h =>
    cases h with
    | words m => exact .of_eq rfl rfl rfl
    | managed m n u hm hu hn =>
      have port (s : State) (m : Mgp) : s.Booked (s.setMgp m) := .of_eq rfl rfl rfl
      exact ((port s m).trans hu.booked).trans (port u n)
  | mains f m order => exact .mainsBecomes s f m order
  | origin f order o =>
    have reached : s.Booked (s.setMtu f ((s.mtu.get f).originReached o)) := .of_eq rfl rfl rfl
    exact reached.trans (.takeOrigin _ f _ order)
  | windowStart f i =>
    exact .of_set f (State.startWindow_csq s f i) ⟨rfl, rfl, rfl, Iff.rfl, rfl, id⟩ (by simp) (by simp)
  | received f u h =>
    obtain ⟨_, _, _, _, _, rfl⟩ := h
    exact .of_eq rfl rfl rfl
  | frame f u t h hslot ht =>
    have received : s.Booked u := by
      obtain ⟨_, _, _, _, _, rfl⟩ := h
      exact .of_eq rfl rfl rfl
    exact received.trans ht.booked
  | folded b u hb hu => obtain rfl | ⟨r, -, rfl⟩ := hu <;> exact .of_eq (by simp) (by simp) (by simp)
  | _ => exact .of_eq (by simp) (by simp) (by simp)

end Sys2Proof.Machine
end

section
/-! Section 5.2, the counts of references: the invariant of R81 (O9). -/
namespace Sys2Proof.Machine

/-! ### What the counts say (R81) -/

/-- The number of ends of a stream at a station. -/
def StreamState.uses (x : StreamState) (n : StationIx) : Nat :=
  match x.ends with
  | some e => (if e.transmitter = n then 1 else 0) + (if e.receiver = n then 1 else 0)
  | none => 0

theorem State.streamUses_eq (s : State) (n : StationIx) : s.streamUses n = ∑ i, (s.stream i).state.uses n := by
  rw [State.streamUses, Fin.sum_univ_def]
  rfl

/-- One stream replaced. -/
theorem State.streamUses_replaced {s t : State} {i : StreamNo} (h : ∀ j, j ≠ i → (t.stream j).state = (s.stream j).state)
    (n : StationIx) :
    t.streamUses n + (s.stream i).state.uses n = s.streamUses n + (t.stream i).state.uses n := by
  have hrest : ∑ j ∈ Finset.univ.erase i, (t.stream j).state.uses n =
      ∑ j ∈ Finset.univ.erase i, (s.stream j).state.uses n :=
    Finset.sum_congr rfl fun j hj => by rw [h j (Finset.ne_of_mem_erase hj)]
  rw [State.streamUses_eq, State.streamUses_eq, ← Finset.add_sum_erase _ _ (Finset.mem_univ i),
    ← Finset.add_sum_erase Finset.univ (fun j => (s.stream j).state.uses n) (Finset.mem_univ i), hrest]
  omega

theorem StreamState.ends_isSome_iff {x : StreamState} : x.ends.isSome ↔ x ≠ .free := by
  cases x <;> simp [StreamState.ends]

theorem State.canStream_iff {s : State} {t r : StationIx} :
    s.canStream t r = true ↔ t ≠ r ∧ ∃ f, s.memberOn t f = true ∧ s.memberOn r f = true := by
  unfold State.canStream State.memberOn
  cases (s.station t).member with
  | none => simp
  | some m =>
    cases (s.station r).member with
    | none => simp
    | some n =>
      simp only [Bool.and_eq_true, decide_eq_true_eq]
      exact ⟨fun ⟨hf, hne⟩ => ⟨hne, m.feed, rfl, hf.symm⟩, fun ⟨hne, f, hm, hn⟩ => ⟨hm.trans hn.symm, hne⟩⟩

/-- R81 with the counted windows by number. -/
theorem State.referencesAgree_iff {s : State} :
    s.ReferencesAgree ↔
      (∀ n, (s.stream n).refs = s.windowUses (.reserved n)) ∧
        (∀ n, (s.station n).refs = s.streamUses n + s.windowUses (.probe n)) ∧
        (∀ n, 0 < s.windowUses (.reserved n) → (s.stream n).state.ends.isSome) ∧
        (∀ n, 0 < s.windowUses (.probe n) → (s.station n).member.isSome) ∧
        ∀ n e, (s.stream n).state.ends = some e → s.canStream e.transmitter e.receiver = true := by
  simp only [State.windowUses_pos, StreamState.ends_isSome_iff]
  rfl

/-! ### Steps that count and release windows -/

/-- The feed of every station and the ends of every stream are as they were. -/
structure State.SameTargets (s t : State) : Prop where
  feed : ∀ n, (t.station n).member.map (·.feed) = (s.station n).member.map (·.feed)
  ends : ∀ n, (t.stream n).state.ends = (s.stream n).state.ends

theorem State.SameTargets.memberOn {s t : State} (h : s.SameTargets t) (n : StationIx) (f : Feed) :
    t.memberOn n f = s.memberOn n f := by
  rw [Bool.eq_iff_iff, State.memberOn_iff, State.memberOn_iff, h.feed]

theorem State.SameTargets.isSome {s t : State} (h : s.SameTargets t) (n : StationIx) :
    (t.station n).member.isSome = (s.station n).member.isSome := by
  rw [← Option.isSome_map (f := (·.feed)), h.feed, Option.isSome_map]

theorem State.SameTargets.canStream {s t : State} (h : s.SameTargets t) (m n : StationIx) :
    t.canStream m n = s.canStream m n := by
  rw [Bool.eq_iff_iff, State.canStream_iff, State.canStream_iff]
  simp only [h.memberOn]

theorem State.SameTargets.targetPasses {s t : State} (h : s.SameTargets t) (f : Feed) (k : WindowKind) :
    t.targetPasses f k = s.targetPasses f k := by
  rw [Bool.eq_iff_iff, State.targetPasses_iff, State.targetPasses_iff]
  simp only [h.memberOn, h.ends]

theorem State.SameTargets.of_eq {s t : State} (hs : t.stations = s.stations) (hx : t.streams = s.streams) :
    s.SameTargets t :=
  ⟨fun n => by rw [State.station_congr hs], fun n => by rw [State.stream_congr hx]⟩

/-- Windows leave the counted banks and others join them, and the counts follow (R33). -/
structure State.Recounted (s t : State) (gone come : WindowKind → Nat) : Prop where
  targets : s.SameTargets t
  windows : ∀ k, t.windowUses k + gone k = s.windowUses k + come k
  streamRefs : ∀ n, (t.stream n).refs = (s.stream n).refs + come (.reserved n) - gone (.reserved n)
  stationRefs : ∀ n, (t.station n).refs = (s.station n).refs + come (.probe n) - gone (.probe n)

theorem State.ReferencesAgree.recounted {s t : State} {gone come : WindowKind → Nat} (hs : s.ReferencesAgree)
    (h : s.Recounted t gone come) (hreserved : ∀ n, 0 < come (.reserved n) → (s.stream n).state.ends.isSome)
    (hprobe : ∀ n, 0 < come (.probe n) → (s.station n).member.isSome) : t.ReferencesAgree := by
  rw [State.referencesAgree_iff] at hs ⊢
  obtain ⟨hstream, hstation, hends, hmember, hcan⟩ := hs
  have huses : ∀ n, t.streamUses n = s.streamUses n := fun n => by
    simp only [State.streamUses, h.targets.ends]
  refine ⟨fun n => ?_, fun n => ?_, fun n hn => ?_, fun n hn => ?_, fun n e he => ?_⟩
  · have hw := h.windows (.reserved n)
    rw [h.streamRefs, hstream]
    omega
  · have hw := h.windows (.probe n)
    rw [h.stationRefs, hstation, huses]
    omega
  · have hw := h.windows (.reserved n)
    rw [h.targets.ends]
    by_cases hc : 0 < come (.reserved n)
    · exact hreserved n hc
    · exact hends n (by omega)
  · have hw := h.windows (.probe n)
    rw [h.targets.isSome]
    by_cases hc : 0 < come (.probe n)
    · exact hprobe n hc
    · exact hmember n (by omega)
  · rw [h.targets.canStream]
    exact hcan n e (by rwa [← h.targets.ends])

/-- No window counted or released. -/
theorem State.ReferencesAgree.stand {s t : State} (hs : s.ReferencesAgree) (ht : s.SameTargets t)
    (hw : ∀ k, t.windowUses k = s.windowUses k) (hx : ∀ n, (t.stream n).refs = (s.stream n).refs)
    (hn : ∀ n, (t.station n).refs = (s.station n).refs) : t.ReferencesAgree :=
  hs.recounted (gone := fun _ => 0) (come := fun _ => 0) ⟨ht, hw, hx, hn⟩ (fun _ h => absurd h (by simp))
    fun _ h => absurd h (by simp)

@[simp] theorem Csq.setBank_pendingState (q : Csq) (n : BankNo) (b : Bank) :
    (q.setBank n b).pendingState = q.pendingState := by cases n <;> rfl

@[simp] theorem Csq.setBank_current (q : Csq) (n : BankNo) (b : Bank) : (q.setBank n b).current = q.current := by
  cases n <;> rfl

/-- A sequencer replaced by one with the same counted banks. -/
theorem State.ReferencesAgree.setCsq {s : State} (hs : s.ReferencesAgree) (f : Feed) {q : Csq}
    (hq : ∀ k, q.uses k = (s.csq.get f).uses k) : (s.setCsq f q).ReferencesAgree := by
  refine hs.stand (.of_eq rfl rfl) (fun k => ?_) (fun _ => rfl) fun _ => rfl
  have hw := State.windowUses_set (s := s) (t := s.setCsq f q) f rfl k
  have := hq k
  omega

theorem State.SameBooks.referencesAgree {s t : State} (h : s.SameBooks t) (hs : s.ReferencesAgree) :
    t.ReferencesAgree :=
  hs.stand ⟨fun n => by rw [h.member], h.ends⟩
    (fun k => by simp only [State.windowUses_eq, (h.books _).uses]) h.streamRefs h.stationRefs

theorem State.Quiet.sameTargets {s t : State} (h : s.Quiet t) : s.SameTargets t :=
  ⟨fun n => by rw [h.member], fun n => by rw [h.stream]⟩

theorem State.recounted_cancelPending (s : State) (f : Feed) (h : (s.csq.get f).pendingState ≠ .edit) :
    s.Recounted (s.cancelPending f) (s.csq.get f).pendingBank.uses fun _ => 0 := by
  have heq : s.cancelPending f = (s.releaseBank (s.csq.get f).pendingBank).setCsq f
      { s.csq.get f with pendingState := .edit } := by
    unfold State.cancelPending
    split
    · rename_i he
      exact absurd he h
    · rfl
  refine ⟨(State.Quiet.cancelPending s f).sameTargets, fun k => ?_, fun n => ?_, fun n => ?_⟩
  · have hw := State.windowUses_set f (State.cancelPending_csq s f) k
    rw [Csq.uses_of_counting h, Csq.uses_of_edit (q := { s.csq.get f with pendingState := .edit }) rfl] at hw
    have hc : ({ s.csq.get f with pendingState := .edit } : Csq).currentBank = (s.csq.get f).currentBank := rfl
    rw [hc] at hw
    omega
  · rw [heq]
    exact State.releaseBank_stream ..
  · rw [heq]
    exact State.releaseBank_station ..

theorem State.exchangeRoles_targets (s : State) (f : Feed) : s.SameTargets (s.exchangeRoles f) := by
  have released := State.Quiet.releaseBank s (s.csq.get f).currentBank
  exact ⟨fun n => congrArg (Option.map (·.feed)) (released.member n), fun n => congrArg StreamState.ends (released.stream n)⟩

/-- The exchange of the roles of two counted banks. -/
theorem State.recounted_exchangeRoles (s : State) (f : Feed) (h : (s.csq.get f).pendingState ≠ .edit) :
    s.Recounted (s.exchangeRoles f) (s.csq.get f).currentBank.uses fun _ => 0 := by
  refine ⟨s.exchangeRoles_targets f, fun k => ?_, fun n => ?_, fun n => ?_⟩
  · have hw := State.windowUses_set f (State.exchangeRoles_csq s f) k
    rw [Csq.uses_of_counting h, Csq.uses_of_edit rfl] at hw
    have hc : ({ s.csq.get f with current := (s.csq.get f).pendingNo, pendingState := .edit } : Csq).currentBank =
      (s.csq.get f).pendingBank := rfl
    rw [hc] at hw
    omega
  · exact State.releaseBank_stream s (s.csq.get f).currentBank n
  · exact State.releaseBank_station s (s.csq.get f).currentBank n

/-- SCHEDULE_ACTIVATE counts the pending bank, and in STOPPED releases the current one. -/
theorem State.recounted_activate (s : State) (f : Feed) (n : Nat) (h : (s.csq.get f).pendingState = .edit) :
    s.Recounted (s.activate f n).1
      (if (s.csq.get f).state = .stopped then (s.csq.get f).currentBank.uses else fun _ => 0)
      (s.csq.get f).pendingBank.uses := by
  have counted := State.Quiet.countBank s (s.csq.get f).pendingBank
  have csq_counted : (s.countBank (s.csq.get f).pendingBank).csq = s.csq := by simp
  have hw := State.windowUses_set f (State.activate_csq s f n)
  simp only [Csq.uses_of_edit h] at hw
  simp only [State.activate, Csq.activated] at hw ⊢
  split
  · rename_i hstop
    simp only [if_pos hstop] at hw
    refine ⟨?_, fun k => ?_, fun m => ?_, fun m => ?_⟩
    · have exchanged := State.exchangeRoles_targets (s.countBank (s.csq.get f).pendingBank) f
      exact ⟨fun m => (exchanged.feed m).trans (counted.sameTargets.feed m),
        fun m => (exchanged.ends m).trans (counted.sameTargets.ends m)⟩
    · have hk := hw k
      rw [Csq.uses_of_edit (q := { s.csq.get f with current := (s.csq.get f).pendingNo, pendingState := .edit }) rfl] at hk
      exact hk
    · rw [← State.countBank_stream s (s.csq.get f).pendingBank m]
      have released := State.releaseBank_stream (s.countBank (s.csq.get f).pendingBank) (s.csq.get f).currentBank m
      rw [← released]
      simp only [State.exchangeRoles, csq_counted]
      rfl
    · rw [← State.countBank_station s (s.csq.get f).pendingBank m]
      have released := State.releaseBank_station (s.countBank (s.csq.get f).pendingBank) (s.csq.get f).currentBank m
      rw [← released]
      simp only [State.exchangeRoles, csq_counted]
      rfl
  · rename_i hstop
    simp only [if_neg hstop] at hw
    refine ⟨⟨counted.sameTargets.feed, counted.sameTargets.ends⟩, fun k => ?_, State.countBank_stream s _, State.countBank_station s _⟩
    have hk := hw k
    rw [Csq.uses_of_counting (q := { s.csq.get f with pendingState := .counting n }) (by simp)] at hk
    have hc : ({ s.csq.get f with pendingState := .counting n } : Csq).currentBank = (s.csq.get f).currentBank := rfl
    have hp : ({ s.csq.get f with pendingState := .counting n } : Csq).pendingBank = (s.csq.get f).pendingBank := rfl
    rw [hc, hp] at hk
    show (State.setCsq _ _ _).windowUses k + 0 = _
    omega

/-! ### What a passing bank names is present (R31) -/

theorem State.checkBank_pass_iff {s : State} {f : Feed} {b : Bank} :
    s.checkBank f b = .pass ↔
      0 < b.count.val ∧ ∀ i ∈ b.slotList, b.positionPasses (s.csq.get f).beaconLen i = true ∧
        s.targetPasses f (b.slot i).kind = true := by
  unfold State.checkBank
  split
  · simp_all
  · rename_i hpos
    split
    · rename_i i hi
      have hfail := List.find?_some hi
      have hmem := List.mem_of_find?_eq_some hi
      refine ⟨fun h => by simp at h, fun ⟨_, h⟩ => ?_⟩
      rw [← State.slotPasses_iff.2 (h i hmem)] at hfail
      simp at hfail
    · rename_i hnone
      rw [List.find?_eq_none] at hnone
      exact ⟨fun _ => ⟨Nat.pos_of_ne_zero hpos, fun i hi => State.slotPasses_iff.1 (by simpa using hnone i hi)⟩,
        fun _ => rfl⟩

theorem Bank.uses_pos {b : Bank} {k : WindowKind} : 0 < b.uses k ↔ ∃ i ∈ b.slotList, (b.slot i).kind = k := by
  rw [Bank.uses, List.count_pos_iff, List.mem_map]

theorem State.checkBank_target {s : State} {f : Feed} {b : Bank} {k : WindowKind} (h : s.checkBank f b = .pass)
    (hk : 0 < b.uses k) : s.targetPasses f k = true := by
  obtain ⟨i, hi, rfl⟩ := Bank.uses_pos.1 hk
  exact ((State.checkBank_pass_iff.1 h).2 i hi).2

theorem State.memberOn_isSome {s : State} {n : StationIx} {f : Feed} (h : s.memberOn n f = true) :
    (s.station n).member.isSome := by
  rw [State.memberOn_iff] at h
  rw [← Option.isSome_map (f := (·.feed)), h]
  rfl

/-! ### Stations and streams come and go -/

theorem State.ReferencesAgree.readdressed {s : State} (hs : s.ReferencesAgree) (hlocal : s.LocalsPresent) (f : Feed)
    (a : Byte) :
    (s.setStation (localStation f) { s.station (localStation f) with member := some ⟨f, a⟩ }).ReferencesAgree := by
  refine hs.stand ⟨fun n => ?_, fun _ => rfl⟩ (fun _ => rfl) (fun _ => rfl) fun n => ?_
  · rw [State.station_setStation]
    split
    · rename_i hn
      rw [hn, hlocal f]
      rfl
    · rfl
  · rw [State.station_setStation]
    split
    · rename_i hn
      rw [hn]
    · rfl

theorem State.ReferencesAgree.not_used {s : State} (hs : s.ReferencesAgree) {n : StationIx}
    (hfree : (s.station n).member = none) : s.streamUses n = 0 ∧ s.windowUses (.probe n) = 0 := by
  obtain ⟨-, -, -, hmember, hcan⟩ := State.referencesAgree_iff.1 hs
  have hno : ∀ f, s.memberOn n f = false := fun f => by simp [State.memberOn, hfree]
  constructor
  · rw [State.streamUses_eq, Finset.sum_eq_zero_iff]
    intro i _
    rw [StreamState.uses]
    split
    · rename_i e he
      obtain ⟨-, f, ht, hr⟩ := State.canStream_iff.1 (hcan i e he)
      have hne : ∀ {m}, s.memberOn m f = true → m ≠ n := fun hm heq => by
        rw [heq, hno] at hm
        cases hm
      simp [hne ht, hne hr]
    · rfl
  · by_contra hpos
    have hsome := hmember n (by omega)
    rw [hfree] at hsome
    cases hsome

theorem State.ReferencesAgree.admission {s : State} (hs : s.ReferencesAgree) {n : StationIx}
    (hfree : (s.station n).member = none) (f : Feed) (a : Byte) : (s.enterStation n f a).ReferencesAgree := by
  obtain ⟨hstreams, hwindows⟩ := hs.not_used hfree
  rw [State.referencesAgree_iff] at hs ⊢
  obtain ⟨hstream, hstation, hends, hmember, hcan⟩ := hs
  have streams (i : StreamNo) : (s.enterStation n f a).stream i = s.stream i :=
    State.stream_congr (s.enterStation_frame n f a).2.2.2.2.1 i
  have windows (k : WindowKind) : (s.enterStation n f a).windowUses k = s.windowUses k := by
    rw [State.windowUses_eq, State.windowUses_eq, show (s.enterStation n f a).csq = s.csq by simp]
  have uses (m : StationIx) : (s.enterStation n f a).streamUses m = s.streamUses m := by
    simp only [State.streamUses, streams]
  have on {m : StationIx} {g : Feed} (hm : s.memberOn m g = true) : (s.enterStation n f a).memberOn m g = true := by
    have hne : m ≠ n := fun heq => by
      rw [heq] at hm
      simp [State.memberOn, hfree] at hm
    rw [State.memberOn_iff, State.enterStation_station, if_neg hne]
    exact State.memberOn_iff.1 hm
  refine ⟨fun i => by rw [streams, windows, hstream], fun m => ?_, fun i hi => ?_, fun m hm => ?_, fun i e he => ?_⟩
  · rw [State.enterStation_station, uses, windows]
    split
    · rename_i hm
      rw [hm, hstreams, hwindows]
    · exact hstation m
  · rw [streams]
    exact hends i (by rwa [← windows])
  · rw [State.enterStation_station]
    split
    · rfl
    · exact hmember m (by rwa [← windows])
  · obtain ⟨hne, g, ht, hr⟩ := State.canStream_iff.1 (hcan i e (by rwa [← streams]))
    exact State.canStream_iff.2 ⟨hne, g, on ht, on hr⟩

theorem State.ReferencesAgree.vacate {s : State} (hs : s.ReferencesAgree) {n : StationIx}
    (hrefs : (s.station n).refs = 0) : (s.vacate n).ReferencesAgree := by
  have hunused := fun i e he => hs.unused hrefs (i := i) (e := e) he
  rw [State.referencesAgree_iff] at hs ⊢
  obtain ⟨hstream, hstation, hends, hmember, hcan⟩ := hs
  have streams (i : StreamNo) : (s.vacate n).stream i = s.stream i := State.stream_congr (by simp [State.vacate]) i
  have windows (k : WindowKind) : (s.vacate n).windowUses k = s.windowUses k := by
    rw [State.windowUses_eq, State.windowUses_eq, show (s.vacate n).csq = s.csq by simp [State.vacate]]
  have uses (m : StationIx) : (s.vacate n).streamUses m = s.streamUses m := by simp only [State.streamUses, streams]
  have hprobe : s.windowUses (.probe n) = 0 := by
    have := hstation n
    omega
  refine ⟨fun i => by rw [streams, windows, hstream], fun m => ?_, fun i hi => ?_, fun m hm => ?_, fun i e he => ?_⟩
  · rw [State.vacate_station, uses, windows]
    split
    · rename_i hm
      rw [hm]
      exact hstation n
    · exact hstation m
  · rw [streams]
    exact hends i (by rwa [← windows])
  · rw [windows] at hm
    rw [State.vacate_station]
    split
    · rename_i heq
      rw [heq] at hm
      omega
    · exact hmember m hm
  · rw [streams] at he
    obtain ⟨ht, hr⟩ := hunused i e he
    obtain ⟨hne, g, hmt, hmr⟩ := State.canStream_iff.1 (hcan i e he)
    refine State.canStream_iff.2 ⟨hne, g, ?_, ?_⟩
    · rw [State.memberOn_iff, State.vacate_station, if_neg ht]
      exact State.memberOn_iff.1 hmt
    · rw [State.memberOn_iff, State.vacate_station, if_neg hr]
      exact State.memberOn_iff.1 hmr

theorem State.newStreamState_ends (s : State) (e : StreamEnds) : (s.newStreamState e).ends = some e := by
  unfold State.newStreamState
  split <;> rfl

theorem State.newStreamState_uses (s : State) (e : StreamEnds) (n : StationIx) :
    (s.newStreamState e).uses n = (if e.transmitter = n then 1 else 0) + (if e.receiver = n then 1 else 0) := by
  rw [StreamState.uses, s.newStreamState_ends]

theorem State.createStream_stream (s : State) (n : StreamNo) (e : StreamEnds) (i : StreamNo) :
    (s.createStream n e).stream i = if i = n then ⟨s.newStreamState e, 0⟩ else s.stream i := by
  rw [← State.stream_setStream]
  exact State.stream_congr (by simp [State.createStream]) i

theorem State.holdStation_station (s : State) (n m : StationIx) :
    (s.holdStation n).station m =
      { s.station m with refs := (s.station m).refs + if n = m then 1 else 0 } := by
  rw [State.holdStation, State.station_setStation]
  by_cases h : m = n
  · simp [h]
  · simp [h, Ne.symm h]

theorem State.dropStation_station (s : State) (n m : StationIx) :
    (s.dropStation n).station m =
      { s.station m with refs := (s.station m).refs - if n = m then 1 else 0 } := by
  rw [State.dropStation, State.station_setStation]
  by_cases h : m = n
  · simp [h]
  · simp [h, Ne.symm h]

theorem State.createStream_station (s : State) (n : StreamNo) (e : StreamEnds) (m : StationIx) :
    (s.createStream n e).station m =
      { s.station m with refs := (s.station m).refs + (s.newStreamState e).uses m } := by
  rw [State.createStream, State.holdStation_station, State.holdStation_station, State.newStreamState_uses,
    State.station_congr (s := s) (by simp)]
  simp only [Nat.add_assoc]

theorem State.SameTargets.canStream_of_station {s t : State} (h : ∀ m, (t.station m).member = (s.station m).member)
    (m n : StationIx) : t.canStream m n = s.canStream m n := by
  simp only [State.canStream, h]

theorem State.ReferencesAgree.createStream {s : State} (hs : s.ReferencesAgree) {n : StreamNo} {e : StreamEnds}
    (hcan : s.canStream e.transmitter e.receiver = true) (hfree : (s.stream n).state = .free) :
    (s.createStream n e).ReferencesAgree := by
  rw [State.referencesAgree_iff] at hs ⊢
  obtain ⟨hstream, hstation, hends, hmember, hstreams⟩ := hs
  have windows (k : WindowKind) : (s.createStream n e).windowUses k = s.windowUses k := by
    rw [State.windowUses_eq, State.windowUses_eq, show (s.createStream n e).csq = s.csq by simp [State.createStream]]
  have can (m m' : StationIx) : (s.createStream n e).canStream m m' = s.canStream m m' :=
    State.SameTargets.canStream_of_station (fun m => by rw [State.createStream_station]) m m'
  have hunused : s.windowUses (.reserved n) = 0 := by
    by_contra hpos
    have hsome := hends n (by omega)
    rw [hfree] at hsome
    cases hsome
  have uses (m : StationIx) : (s.createStream n e).streamUses m = s.streamUses m + (s.newStreamState e).uses m := by
    have hreplaced := State.streamUses_replaced (s := s) (t := s.createStream n e) (i := n)
      (fun j hj => by rw [State.createStream_stream, if_neg hj]) m
    have hnone : (s.stream n).state.uses m = 0 := by rw [hfree]; rfl
    rw [State.createStream_stream, if_pos rfl, hnone, Nat.add_zero] at hreplaced
    exact hreplaced
  refine ⟨fun i => ?_, fun m => ?_, fun i hi => ?_, fun m hm => ?_, fun i x hx => ?_⟩
  · rw [State.createStream_stream, windows]
    split
    · rename_i hi
      rw [hi, hunused]
    · exact hstream i
  · rw [State.createStream_station, uses, windows]
    have := hstation m
    show (s.station m).refs + _ = _
    omega
  · rw [windows] at hi
    rw [State.createStream_stream]
    split
    · rw [State.newStreamState_ends]
      rfl
    · exact hends i hi
  · rw [windows] at hm
    rw [State.createStream_station]
    exact hmember m hm
  · rw [can]
    rw [State.createStream_stream] at hx
    split at hx
    · rw [State.newStreamState_ends] at hx
      cases hx
      exact hcan
    · exact hstreams i x hx

/-- A stream of count 0 deleted (R92). -/
def State.deleteStream (s : State) (n : StreamNo) (e : StreamEnds) : State :=
  ((s.dropStation e.transmitter).dropStation e.receiver).setStream n ⟨.free, 0⟩

theorem State.deleteStream_stream (s : State) (n : StreamNo) (e : StreamEnds) (i : StreamNo) :
    (s.deleteStream n e).stream i = if i = n then ⟨.free, 0⟩ else s.stream i := by
  rw [State.deleteStream, State.stream_setStream, State.stream_congr (s := s) (by simp)]

theorem State.deleteStream_station (s : State) (n : StreamNo) (e : StreamEnds) (m : StationIx) :
    (s.deleteStream n e).station m =
      { s.station m with
        refs := (s.station m).refs - (if e.transmitter = m then 1 else 0) - if e.receiver = m then 1 else 0 } := by
  rw [State.deleteStream, State.station_congr (s := (s.dropStation e.transmitter).dropStation e.receiver) (by simp),
    State.dropStation_station, State.dropStation_station]

theorem State.ReferencesAgree.deleteStream {s : State} (hs : s.ReferencesAgree) {n : StreamNo} {e : StreamEnds}
    (he : (s.stream n).state.ends = some e) (hrefs : (s.stream n).refs = 0) : (s.deleteStream n e).ReferencesAgree := by
  rw [State.referencesAgree_iff] at hs ⊢
  obtain ⟨hstream, hstation, hends, hmember, hstreams⟩ := hs
  have windows (k : WindowKind) : (s.deleteStream n e).windowUses k = s.windowUses k := by
    rw [State.windowUses_eq, State.windowUses_eq, show (s.deleteStream n e).csq = s.csq by simp [State.deleteStream]]
  have can (m m' : StationIx) : (s.deleteStream n e).canStream m m' = s.canStream m m' :=
    State.SameTargets.canStream_of_station (fun m => by rw [State.deleteStream_station]) m m'
  have uses (m : StationIx) : (s.deleteStream n e).streamUses m +
      ((if e.transmitter = m then 1 else 0) + (if e.receiver = m then 1 else 0)) = s.streamUses m := by
    have hreplaced := State.streamUses_replaced (s := s) (t := s.deleteStream n e) (i := n)
      (fun j hj => by rw [State.deleteStream_stream, if_neg hj]) m
    have hsome : (s.stream n).state.uses m =
        (if e.transmitter = m then 1 else 0) + (if e.receiver = m then 1 else 0) := by rw [StreamState.uses, he]
    have hnone : (⟨.free, 0⟩ : Stream).state.uses m = 0 := rfl
    rw [State.deleteStream_stream, if_pos rfl, hsome, hnone, Nat.add_zero] at hreplaced
    exact hreplaced
  refine ⟨fun i => ?_, fun m => ?_, fun i hi => ?_, fun m hm => ?_, fun i x hx => ?_⟩
  · rw [State.deleteStream_stream, windows]
    split
    · rename_i hi
      rw [hi, ← hstream, hrefs]
    · exact hstream i
  · rw [State.deleteStream_station, windows]
    have h1 := hstation m
    have h2 := uses m
    show (s.station m).refs - _ - _ = _
    omega
  · rw [windows] at hi
    rw [State.deleteStream_stream]
    split
    · rename_i heq
      rw [heq, ← hstream, hrefs] at hi
      cases hi
    · exact hends i hi
  · rw [windows] at hm
    rw [State.deleteStream_station]
    exact hmember m hm
  · rw [can]
    rw [State.deleteStream_stream] at hx
    split at hx
    · cases hx
    · exact hstreams i x hx

/-! ### O9 -/

theorem State.LocalsPresent.of_feed {s t : State} (h : s.LocalsPresent)
    (ht : ∀ f, (t.station (localStation f)).member.map (·.feed) = (s.station (localStation f)).member.map (·.feed)) :
    t.LocalsPresent := fun f => (ht f).trans (h f)

theorem localStation_ne {n : StationIx} (hn : 3 ≤ n.val) (f : Feed) : localStation f ≠ n := fun h => by
  have := localStation_lt f
  rw [h] at this
  omega

/-- R81 and R77 are kept together: an address of a local station stands for the same feed. -/
theorem State.Booked.referencesAgree {s t : State} (h : s.Booked t) :
    s.LocalsPresent ∧ s.ReferencesAgree → t.LocalsPresent ∧ t.ReferencesAgree := by
  induction h with
  | trans h k ih ik => exact fun hs => ik (ih hs)
  | same h => exact fun ⟨hl, hs⟩ => ⟨hl.of_feed fun f => by rw [h.member], h.referencesAgree hs⟩
  | started s f hpass st => exact fun ⟨hl, hs⟩ => ⟨hl, hs.setCsq f fun k => rfl⟩
  | edited s f b hedit =>
    refine fun ⟨hl, hs⟩ => ⟨hl, hs.setCsq f fun k => ?_⟩
    have hother : (s.csq.get f).current ≠ (s.csq.get f).pendingNo := (BankNo.other_ne _).symm
    rw [Csq.uses_of_edit hedit, Csq.uses_of_edit ((Csq.setBank_pendingState ..).trans hedit), Csq.currentBank,
      Csq.currentBank, Csq.setBank_current,
      Csq.bank_setBank_of_ne _ hother]
  | cancelled s f =>
    refine fun ⟨hl, hs⟩ => ⟨hl.of_feed fun g => (State.Quiet.cancelPending s f).sameTargets.feed _, ?_⟩
    by_cases hedit : (s.csq.get f).pendingState = .edit
    · have heq : s.cancelPending f = s := by simp only [State.cancelPending, hedit]
      rwa [heq]
    · exact hs.recounted (s.recounted_cancelPending f hedit) (fun _ h => by cases h) fun _ h => by cases h
  | exchanged s f hcounting =>
    exact fun ⟨hl, hs⟩ => ⟨hl.of_feed fun g => (s.exchangeRoles_targets f).feed _,
      hs.recounted (s.recounted_exchangeRoles f hcounting) (fun _ h => by cases h) fun _ h => by cases h⟩
  | activated s f n hedit hpass =>
    have recounted := s.recounted_activate f n hedit
    refine fun ⟨hl, hs⟩ => ⟨hl.of_feed fun g => recounted.targets.feed _, hs.recounted recounted (fun m hm => ?_) fun m hm => ?_⟩
    · obtain ⟨e, he, -⟩ := (State.targetPasses_iff.1 (State.checkBank_target hpass hm)).1 m rfl
      rw [he]
      rfl
    · exact State.memberOn_isSome ((State.targetPasses_iff.1 (State.checkBank_target hpass hm)).2 m rfl).2
  | measured s f beaconLen hstop hedit => exact fun ⟨hl, hs⟩ => ⟨hl, hs.setCsq f fun k => rfl⟩
  | readdressed s f a =>
    refine fun ⟨hl, hs⟩ => ⟨fun g => ?_, hs.readdressed hl f a⟩
    rw [State.station_setStation]
    split
    · rename_i hg
      rw [localStation_inj hg]
      rfl
    · exact hl g
  | admitted s n f a hn hfree =>
    refine fun ⟨hl, hs⟩ => ⟨hl.of_feed fun g => ?_, hs.admission hfree f a⟩
    rw [State.enterStation_station, if_neg (localStation_ne hn g)]
  | removed s n hn hrefs =>
    refine fun ⟨hl, hs⟩ => ⟨hl.of_feed fun g => ?_, hs.vacate hrefs⟩
    rw [State.vacate_station, if_neg (localStation_ne hn g)]
  | created s n e hcan hfree =>
    refine fun ⟨hl, hs⟩ => ⟨hl.of_feed fun g => ?_, hs.createStream hcan hfree⟩
    rw [State.createStream_station]
  | deleted s n e he hrefs =>
    refine fun ⟨hl, hs⟩ => ⟨hl.of_feed fun g => ?_, hs.deleteStream he hrefs⟩
    exact congrArg (fun x : Station => x.member.map (·.feed)) (s.deleteStream_station n e (localStation g))

theorem State.reset_station_refs (n : StationIx) : (State.reset.station n).refs = 0 := by
  by_cases hn : 3 ≤ n.val
  · rw [State.reset_station_remote hn]
  · obtain ⟨f, rfl⟩ := exists_localStation (by omega : n.val < 3)
    cases f <;> rfl

theorem State.reset_stream (n : StreamNo) : State.reset.stream n = ⟨.free, 0⟩ := by
  simp [State.stream, State.reset]

theorem State.reset_windowUses (k : WindowKind) : State.reset.windowUses k = 0 := by
  have hno : State.reset.countedWindows = [] := by decide
  rw [State.windowUses, hno]
  rfl

theorem State.reset_referencesAgree : State.reset.ReferencesAgree := by
  rw [State.referencesAgree_iff]
  have hfree (n : StreamNo) : (State.reset.stream n).state.ends = none := by rw [State.reset_stream]; rfl
  have huses (n : StationIx) : State.reset.streamUses n = 0 := by
    simp [State.streamUses_eq, StreamState.uses, hfree]
  refine ⟨fun n => by rw [State.reset_stream, State.reset_windowUses], fun n => ?_, fun n h => ?_, fun n h => ?_,
    fun n e h => ?_⟩
  · rw [State.reset_station_refs, huses, State.reset_windowUses]
  · rw [State.reset_windowUses] at h
    cases h
  · rw [State.reset_windowUses] at h
    cases h
  · rw [hfree] at h
    cases h

/-- Settles O9: every command is a run of changes of the books, each of which counts what it names and releases what it
no longer names. -/
theorem stepsKeepReferenceCounts : Obligations.StepsKeepReferenceCounts := by
  intro s t hlocal hs h
  obtain ⟨p, n, rfl⟩ | rfl | ⟨p, n, he⟩ := step_cases h
  · exact State.reset_referencesAgree
  · exact hs
  · exact (State.Booked.referencesAgree (s := { s with pending := p, choices := n }) he.booked ⟨hlocal, hs⟩).2

end Sys2Proof.Machine
end

section
/-! Section 2.5, the schedules in play: the invariant of R32 (O11). -/
namespace Sys2Proof.Machine

/-! ### A bank passes as long as its targets do (R31) -/

theorem State.checkBank_pass_of {s t : State} {f : Feed} {b : Bank} (h : s.checkBank f b = .pass)
    (hlen : (t.csq.get f).beaconLen = (s.csq.get f).beaconLen)
    (htargets : ∀ k, 0 < b.uses k → s.targetPasses f k = true → t.targetPasses f k = true) :
    t.checkBank f b = .pass := by
  rw [State.checkBank_pass_iff] at h ⊢
  obtain ⟨hpos, hall⟩ := h
  refine ⟨hpos, fun i hi => ?_⟩
  obtain ⟨hposition, htarget⟩ := hall i hi
  rw [hlen]
  exact ⟨hposition, htargets _ (Bank.uses_pos.2 ⟨i, hi, rfl⟩) htarget⟩

theorem State.SameTargets.checkBank_pass {s t : State} (h : s.SameTargets t) {f : Feed} {b : Bank}
    (hb : s.checkBank f b = .pass) (hlen : (t.csq.get f).beaconLen = (s.csq.get f).beaconLen) :
    t.checkBank f b = .pass :=
  State.checkBank_pass_of hb hlen fun k _ hk => (h.targetPasses f k).trans hk

theorem Csq.currentBank_uses_le (q : Csq) (k : WindowKind) : q.currentBank.uses k ≤ q.uses k := by
  by_cases h : q.pendingState = .edit
  · rw [Csq.uses_of_edit h]
  · rw [Csq.uses_of_counting h]
    omega

theorem Csq.pendingBank_uses_le {q : Csq} (h : q.pendingState ≠ .edit) (k : WindowKind) :
    q.pendingBank.uses k ≤ q.uses k := by
  rw [Csq.uses_of_counting h]
  omega

/-! ### The banks in play of one feed (R32) -/

/-- The bank in play of a sequencer passes, and its COUNTING bank too. -/
def State.CheckedAt (s : State) (f : Feed) (q : Csq) : Prop :=
  (q.state ≠ .stopped → s.checkBank f q.currentBank = .pass) ∧
    (q.pendingState ≠ .edit → s.checkBank f q.pendingBank = .pass)

theorem State.schedulesChecked_iff {s : State} : s.SchedulesChecked ↔ ∀ f, s.CheckedAt f (s.csq.get f) := Iff.rfl

/-- The books stand, and every target that a counted window names still passes. -/
theorem State.SchedulesChecked.kept {s t : State} (hs : s.SchedulesChecked)
    (hbooks : ∀ f, (s.csq.get f).SameBooks (t.csq.get f))
    (htargets : ∀ f k, 0 < s.windowUses k → s.targetPasses f k = true → t.targetPasses f k = true) :
    t.SchedulesChecked := fun f => by
  obtain ⟨hcurrent, hpending⟩ := hs f
  have hused := s.uses_le_windowUses f
  refine ⟨fun hstate => ?_, fun hcounting => ?_⟩
  · rw [(hbooks f).currentBank]
    refine State.checkBank_pass_of (hcurrent ((hbooks f).state hstate)) (hbooks f).beaconLen fun k hk => htargets f k ?_
    have := (s.csq.get f).currentBank_uses_le k
    have := hused k
    omega
  · have hwas := mt (hbooks f).pending.2 hcounting
    rw [(hbooks f).pendingBank]
    refine State.checkBank_pass_of (hpending hwas) (hbooks f).beaconLen fun k hk => htargets f k ?_
    have := Csq.pendingBank_uses_le hwas k
    have := hused k
    omega

/-- One sequencer replaced, with every beacon length as it was. -/
theorem State.SchedulesChecked.replaced {s t : State} (hs : s.SchedulesChecked) (ht : s.SameTargets t) (f : Feed)
    {q : Csq} (hcsq : t.csq = s.csq.set f q) (hlen : q.beaconLen = (s.csq.get f).beaconLen) (hq : s.CheckedAt f q) :
    t.SchedulesChecked := fun g => by
  have hlens : (t.csq.get g).beaconLen = (s.csq.get g).beaconLen := by
    rw [hcsq, PerFeed.get_set]
    split
    · rename_i hg
      rw [hg, hlen]
    · rfl
  have hwas : s.CheckedAt g (t.csq.get g) := by
    rw [hcsq, PerFeed.get_set]
    split
    · rename_i hg
      rw [hg]
      exact hq
    · exact hs g
  obtain ⟨hcurrent, hpending⟩ := hwas
  exact ⟨fun h => ht.checkBank_pass (hcurrent h) hlens, fun h => ht.checkBank_pass (hpending h) hlens⟩

/-! ### The changes of the books -/

theorem State.SchedulesChecked.edited {s : State} (hs : s.SchedulesChecked) (f : Feed) (b : Bank)
    (hedit : (s.csq.get f).pendingState = .edit) :
    (s.setCsq f ((s.csq.get f).setBank (s.csq.get f).pendingNo b)).SchedulesChecked := by
  have hbank : ((s.csq.get f).setBank (s.csq.get f).pendingNo b).currentBank = (s.csq.get f).currentBank := by
    have hother : (s.csq.get f).current ≠ (s.csq.get f).pendingNo := (BankNo.other_ne _).symm
    rw [Csq.currentBank, Csq.currentBank, Csq.setBank_current, Csq.bank_setBank_of_ne _ hother]
  have hfields : ((s.csq.get f).setBank (s.csq.get f).pendingNo b).beaconLen = (s.csq.get f).beaconLen ∧
      ((s.csq.get f).setBank (s.csq.get f).pendingNo b).state = (s.csq.get f).state := by
    cases (s.csq.get f).pendingNo <;> exact ⟨rfl, rfl⟩
  obtain ⟨hlen, hstate⟩ := hfields
  refine hs.replaced (.of_eq rfl rfl) f rfl hlen ⟨fun h => ?_, fun h => absurd hedit (by simpa using h)⟩
  rw [hbank]
  exact (hs f).1 (hstate ▸ h)

theorem State.SchedulesChecked.activated {s : State} (hs : s.SchedulesChecked) (f : Feed) (n : Nat)
    (hedit : (s.csq.get f).pendingState = .edit) (hpass : s.checkBank f (s.csq.get f).pendingBank = .pass) :
    (s.activate f n).1.SchedulesChecked := by
  refine hs.replaced (s.recounted_activate f n hedit).targets f (State.activate_csq s f n) ?_ ?_
  · unfold Csq.activated
    split <;> rfl
  · unfold Csq.activated
    split
    · rename_i hstop
      exact ⟨fun h => absurd hstop h, fun h => absurd rfl h⟩
    · rename_i hstop
      exact ⟨(hs f).1, fun _ => hpass⟩

theorem State.SameTargets.readdressed {s : State} (hlocal : s.LocalsPresent) (f : Feed) (a : Byte) :
    s.SameTargets (s.setStation (localStation f) { s.station (localStation f) with member := some ⟨f, a⟩ }) := by
  refine ⟨fun n => ?_, fun _ => rfl⟩
  rw [State.station_setStation]
  split
  · rename_i hn
    rw [hn, hlocal f]
    rfl
  · rfl

/-- A target passes where its station, or its stream and both its stations, are kept. -/
theorem State.targetPasses_of {s t : State} {f : Feed} {k : WindowKind} (h : s.targetPasses f k = true)
    (hends : ∀ n e, k = .reserved n → (s.stream n).state.ends = some e → (t.stream n).state.ends = some e)
    (hend : ∀ n e, k = .reserved n → (s.stream n).state.ends = some e →
      ∀ m, m = e.transmitter ∨ m = e.receiver → s.memberOn m f = true → t.memberOn m f = true)
    (hprobe : ∀ n, k = .probe n → s.memberOn n f = true → t.memberOn n f = true) : t.targetPasses f k = true := by
  rw [State.targetPasses_iff] at h ⊢
  obtain ⟨hreserved, hmember⟩ := h
  refine ⟨fun n hk => ?_, fun n hk => ⟨(hmember n hk).1, hprobe n hk (hmember n hk).2⟩⟩
  obtain ⟨e, he, ht, hr⟩ := hreserved n hk
  exact ⟨e, hends n e hk he, hend n e hk he _ (.inl rfl) ht, hend n e hk he _ (.inr rfl) hr⟩

theorem State.SchedulesChecked.admission {s : State} (hs : s.SchedulesChecked) {n : StationIx}
    (hfree : (s.station n).member = none) (f : Feed) (a : Byte) : (s.enterStation n f a).SchedulesChecked := by
  have on {m : StationIx} {g : Feed} (hm : s.memberOn m g = true) : (s.enterStation n f a).memberOn m g = true := by
    have hne : m ≠ n := fun heq => by
      rw [heq] at hm
      simp [State.memberOn, hfree] at hm
    rw [State.memberOn_iff, State.enterStation_station, if_neg hne]
    exact State.memberOn_iff.1 hm
  refine hs.kept (fun g => by rw [show (s.enterStation n f a).csq = s.csq by simp]; exact .rfl' _) fun g k _ hk => ?_
  refine State.targetPasses_of hk (fun i e _ he => ?_) (fun _ _ _ _ _ _ => on) fun _ _ => on
  rwa [State.stream_congr (s.enterStation_frame n f a).2.2.2.2.1 i]

theorem State.SchedulesChecked.vacate {s : State} (hs : s.SchedulesChecked) (href : s.ReferencesAgree)
    {n : StationIx} (hrefs : (s.station n).refs = 0) : (s.vacate n).SchedulesChecked := by
  obtain ⟨-, hstation, -⟩ := State.referencesAgree_iff.1 href
  have hprobe : s.windowUses (.probe n) = 0 := by
    have := hstation n
    omega
  have on {m : StationIx} {g : Feed} (hne : m ≠ n) (hm : s.memberOn m g = true) : (s.vacate n).memberOn m g = true := by
    rw [State.memberOn_iff, State.vacate_station, if_neg hne]
    exact State.memberOn_iff.1 hm
  refine hs.kept (fun g => by rw [show (s.vacate n).csq = s.csq by simp [State.vacate]]; exact .rfl' _) fun g k hpos hk => ?_
  refine State.targetPasses_of hk (fun i e _ he => ?_) (fun i e _ he m hm => ?_) fun m hm => ?_
  · rwa [State.stream_congr (s := s) (by simp [State.vacate]) i]
  · obtain ⟨ht, hr⟩ := href.unused hrefs he
    obtain rfl | rfl := hm
    · exact on ht
    · exact on hr
  · refine on fun heq => ?_
    rw [hm, heq, hprobe] at hpos
    cases hpos

theorem State.SchedulesChecked.createStream {s : State} (hs : s.SchedulesChecked) {n : StreamNo} (e : StreamEnds)
    (hfree : (s.stream n).state = .free) : (s.createStream n e).SchedulesChecked := by
  have on (m : StationIx) (g : Feed) (hm : s.memberOn m g = true) : (s.createStream n e).memberOn m g = true := by
    rw [State.memberOn_iff, State.createStream_station]
    exact State.memberOn_iff.1 hm
  refine hs.kept (fun g => by rw [show (s.createStream n e).csq = s.csq by simp [State.createStream]]; exact .rfl' _)
    fun g k _ hk => State.targetPasses_of hk (fun i x _ hx => ?_) (fun _ _ _ _ m _ => on m g) fun m _ => on m g
  rw [State.createStream_stream]
  split
  · rename_i hi
    rw [hi, hfree] at hx
    cases hx
  · exact hx

theorem State.SchedulesChecked.deleteStream {s : State} (hs : s.SchedulesChecked) (href : s.ReferencesAgree)
    {n : StreamNo} (e : StreamEnds) (hrefs : (s.stream n).refs = 0) : (s.deleteStream n e).SchedulesChecked := by
  have hreserved : s.windowUses (.reserved n) = 0 := ((State.referencesAgree_iff.1 href).1 n).symm.trans hrefs
  have on (m : StationIx) (g : Feed) (hm : s.memberOn m g = true) : (s.deleteStream n e).memberOn m g = true := by
    rw [State.memberOn_iff, State.deleteStream_station]
    exact State.memberOn_iff.1 hm
  refine hs.kept (fun g => by rw [show (s.deleteStream n e).csq = s.csq by simp [State.deleteStream]]; exact .rfl' _)
    fun g k hpos hk => State.targetPasses_of hk (fun i x hi hx => ?_) (fun _ _ _ _ m _ => on m g) fun m _ => on m g
  rw [State.deleteStream_stream, if_neg]
  · exact hx
  · rintro rfl
    rw [hi, hreserved] at hpos
    cases hpos

theorem State.Booked.schedulesChecked {s t : State} (h : s.Booked t) :
    s.LocalsPresent ∧ s.ReferencesAgree → s.SchedulesChecked → t.SchedulesChecked := by
  induction h with
  | trans h k ih ik => exact fun hb hs => ik (h.referencesAgree hb) (ih hb hs)
  | same h =>
    intro _ hs
    have targets : State.SameTargets _ _ := ⟨fun n => by rw [h.member], h.ends⟩
    exact hs.kept h.books fun f k _ hk => (targets.targetPasses f k).trans hk
  | started s f hpass st => exact fun _ hs => hs.replaced (.of_eq rfl rfl) f rfl rfl ⟨fun _ => hpass, (hs f).2⟩
  | edited s f b hedit => exact fun _ hs => hs.edited f b hedit
  | cancelled s f =>
    exact fun _ hs => hs.replaced (State.Quiet.cancelPending s f).sameTargets f (State.cancelPending_csq s f) rfl
      ⟨(hs f).1, fun h => absurd rfl h⟩
  | exchanged s f hcounting =>
    exact fun _ hs => hs.replaced (s.exchangeRoles_targets f) f (State.exchangeRoles_csq s f) rfl
      ⟨fun _ => (hs f).2 hcounting, fun h => absurd rfl h⟩
  | activated s f n hedit hpass => exact fun _ hs => hs.activated f n hedit hpass
  | measured s f beaconLen hstop hedit =>
    intro _ hs g
    by_cases hg : g = f
    · rw [hg, State.setCsq_csq, PerFeed.get_set_self]
      exact ⟨fun h => absurd hstop h, fun h => absurd hedit h⟩
    · have hsame : (s.setCsq f { s.csq.get f with beaconLen := beaconLen }).csq.get g = s.csq.get g :=
        PerFeed.get_set_of_ne _ hg _
      rw [hsame]
      have targets : s.SameTargets (s.setCsq f { s.csq.get f with beaconLen := beaconLen }) := .of_eq rfl rfl
      exact ⟨fun h => targets.checkBank_pass ((hs g).1 h) (by rw [hsame]),
        fun h => targets.checkBank_pass ((hs g).2 h) (by rw [hsame])⟩
  | readdressed s f a =>
    intro hb hs
    have targets := State.SameTargets.readdressed hb.1 f a
    exact hs.kept (fun g => .rfl' _) fun g k _ hk => (targets.targetPasses g k).trans hk
  | admitted s n f a hn hfree => exact fun _ hs => hs.admission hfree f a
  | removed s n hn hrefs => exact fun hb hs => hs.vacate hb.2 hrefs
  | created s n e hcan hfree => exact fun _ hs => hs.createStream e hfree
  | deleted s n e he hrefs => exact fun hb hs => hs.deleteStream hb.2 e hrefs

theorem State.reset_schedulesChecked : State.reset.SchedulesChecked := fun f => by cases f <;> decide

/-- Settles O11: a bank comes into play only by a passed check, and no station or stream that a counted window names is
removed. -/
theorem stepsKeepSchedulesChecked : Obligations.StepsKeepSchedulesChecked := by
  intro s t hlocal href hs h
  obtain ⟨p, n, rfl⟩ | rfl | ⟨p, n, he⟩ := step_cases h
  · exact State.reset_schedulesChecked
  · exact hs
  · exact State.Booked.schedulesChecked (s := { s with pending := p, choices := n }) he.booked ⟨hlocal, href⟩ hs

end Sys2Proof.Machine
end

section
/-! DEVICE_RESET and the state after it: the reset values (O4) and the invariants of chapters 1 to 11 (O17). -/
namespace Sys2Proof.Machine

@[simp] theorem State.reset_mtu (f : Feed) : State.reset.mtu.get f = Mtu.reset := PerFeed.get_all ..

@[simp] theorem State.reset_csq (f : Feed) : State.reset.csq.get f = Csq.reset := PerFeed.get_all ..

@[simp] theorem State.reset_clc (f : Feed) : State.reset.clc.get f = Clc.reset := PerFeed.get_all ..

theorem State.reset_notch (f : Feed) : State.reset.notch.get f = 0 := PerFeed.get_all ..

theorem State.reset_claims (f : Feed) : State.reset.claims.get f = none := PerFeed.get_all ..

theorem Csq.reset_bank (n : BankNo) : Csq.reset.bank n = Bank.reset := by cases n <;> rfl

theorem Bank.reset_slot (i : SlotNo) : Bank.reset.slot i = ⟨0, 0, .beacon⟩ := by simp [Bank.slot, Bank.reset]

theorem State.reset_localStation (f : Feed) : State.reset.station (localStation f) = ⟨some ⟨f, 1⟩, 0, 0⟩ := by
  cases f <;> rfl

/-- Settles O4: the next state is the state after reset with the queue as it was, read block by block. -/
theorem deviceResetRestoresEveryBlock : Obligations.DeviceResetRestoresEveryBlock := fun s => by
  have mtu (f : Feed) := State.reset_mtu f
  have csq (f : Feed) : (State.reset.csq.get f).state = .stopped ∧ (State.reset.csq.get f).beaconCount = 0 ∧
      (State.reset.csq.get f).halfIndex = 0 ∧ (State.reset.csq.get f).currentWindow = none ∧
      (State.reset.csq.get f).armed = [] ∧ (State.reset.csq.get f).heldClaim = none ∧
      (State.reset.csq.get f).halfCycle = ⟨0, .positive, 0⟩ ∧ (State.reset.csq.get f).current = .b0 ∧
      (State.reset.csq.get f).pendingState = .edit ∧ (State.reset.csq.get f).beaconLen = 4 ∧
      ∀ n, ((State.reset.csq.get f).bank n).count = 0 ∧ ∀ i, ((State.reset.csq.get f).bank n).slot i = ⟨0, 0, .beacon⟩ := by
    rw [State.reset_csq]
    refine ⟨rfl, rfl, rfl, rfl, rfl, rfl, rfl, rfl, rfl, rfl, fun n => ?_⟩
    rw [Csq.reset_bank]
    exact ⟨rfl, Bank.reset_slot⟩
  have clc (f : Feed) : State.reset.clc.get f = Clc.reset := State.reset_clc f
  refine ⟨_, rfl, rfl, rfl, mtu, csq, rfl, State.reset_localStation, fun _ => State.reset_station_remote,
    State.reset_stream, State.reset_link, fun f => ⟨State.reset_notch f, State.reset_claims f⟩, rfl, fun f => ?_,
    rfl, rfl, rfl, rfl, rfl, rfl, rfl, rfl, rfl⟩
  dsimp only
  rw [clc]
  exact ⟨rfl, rfl, rfl, rfl, rfl, rfl, rfl, rfl, rfl, rfl, rfl, rfl⟩

theorem State.reset_channelsSound : State.reset.ChannelsSound := fun l k h => by
  rw [State.reset_link] at h
  cases h

theorem State.reset_setsSound : State.reset.SetsSound := fun l k h => by
  rw [State.reset_link] at h
  cases h

theorem State.reset_jobNotLapped : State.reset.JobNotLapped := fun _ _ h => by cases h

/-- Settles O17: each invariant holds after reset. -/
theorem resetMeetsEveryInvariant : Obligations.ResetMeetsEveryInvariant := by
  obtain ⟨hlocal, hlinks, haddress⟩ := State.reset_tablesSound
  exact ⟨State.reset_mainsSound, State.reset_driverSound, hlocal, hlinks, haddress, State.reset_referencesAgree,
    State.reset_streamsFollow, State.reset_schedulesChecked, State.reset_reportsSound, State.reset_channelsSound,
    State.reset_planQueueSound, State.reset_setsSound, State.reset_queuesSound, State.reset_claimsMatch,
    State.reset_zonesSound, State.reset_jobNotLapped⟩

end Sys2Proof.Machine
end

section
/-! Chapter 10, the sending half of a cycle link as a function of its CLC: the transmitter's choice and the offers of
notices change the CLC alone, by the tick and the bytes of the fetched map alone. -/
namespace Sys2Proof.Machine

/-! ### Two states by their fields -/

theorem State.eq_of_fields {s t : State} (now : t.now = s.now) (mtu : t.mtu = s.mtu) (csq : t.csq = s.csq)
    (pda : t.pda = s.pda) (stations : t.stations = s.stations) (streams : t.streams = s.streams)
    (links : t.links = s.links) (notch : t.notch = s.notch) (claims : t.claims = s.claims)
    (planner : t.planner = s.planner) (clc : t.clc = s.clc) (mgp : t.mgp = s.mgp) (choices : t.choices = s.choices)
    (pending : t.pending = s.pending) : t = s := by
  cases s
  cases t
  simp only [State.mk.injEq]
  exact ⟨now, mtu, csq, pda, stations, streams, links, notch, claims, planner, clc, mgp, choices, pending⟩

/-! ### The transmitter's choice (R179) -/

/-- A frame put on the line (R170). -/
def Clc.sent (c : Clc) (now : Nat) (source : FrameSource) (frame : OutFrame) : Clc :=
  { c with
    transmitter :=
      { c.transmitter with
        sending := some ⟨source, frame, max now c.transmitter.lineFree + Config.symbolTicks * frame.symbols⟩ } }

/-- The head of the general queue begun (R179, R181). -/
def Clc.generalSent (c : Clc) (now : Nat) : Clc :=
  match c.general with
  | [] => c
  | n :: rest =>
      ({ c with general := rest, generalLost := false } : Clc).sent now .general
        ⟨n.type, 0, byte (4 * bit c.generalLost), n.payload⟩

/-- The response begun, if one waits, and otherwise the head of the general queue (R176, R179). -/
def Clc.responseSent (c : Clc) (now : Nat) (map : List Byte) : Clc :=
  match c.slot with
  | some sl =>
      if sl.begun then c.generalSent now
      else
        ({ c with slot := some { sl with begun := true }, dropped := false } : Clc).sent now .response
          ⟨sl.response.type, sl.tag, byte (bit c.dropped), sl.response.payload map⟩
  | none => c.generalSent now

/-- The transmitter's choice (R179). -/
def Clc.chosen (c : Clc) (now : Nat) (map : List Byte) : Clc :=
  match c.link, c.transmitter.sending with
  | .up _, none =>
      match c.timing with
      | n :: rest =>
          ({ c with timing := rest, timingLost := false } : Clc).sent now .timing
            ⟨n.type, 0, byte (2 * bit c.timingLost), n.payload⟩
      | [] => c.responseSent now map
  | _, _ => c

/-- A timing notice offered (R180, R182). -/
def Clc.timingOffered (c : Clc) (now : Nat) (map : List Byte) (n : TimingNotice) : Clc :=
  match c.link with
  | .down => { c with timingLost := true }
  | .up _ => (c.queueTiming n).chosen now map

/-- A general notice offered (R181, R182). -/
def Clc.generalOffered (c : Clc) (now : Nat) (map : List Byte) (n : GeneralNotice) : Clc :=
  match c.link with
  | .down => { c with generalLost := true }
  | .up _ => (c.queueGeneral n).chosen now map

theorem State.sendGeneral_eq (s : State) (f : Feed) :
    s.sendGeneral f (s.clc.get f) = s.setClc f ((s.clc.get f).generalSent s.now) := by
  unfold State.sendGeneral Clc.generalSent
  cases (s.clc.get f).general with
  | nil => exact (s.setClc_get f).symm
  | cons n rest => rfl

theorem State.sendResponse_eq (s : State) (f : Feed) :
    s.sendResponse f (s.clc.get f) = s.setClc f ((s.clc.get f).responseSent s.now (s.mapData f)) := by
  unfold State.sendResponse Clc.responseSent
  cases (s.clc.get f).slot with
  | none => exact s.sendGeneral_eq f
  | some sl =>
    dsimp only
    split
    · exact s.sendGeneral_eq f
    · rfl

theorem State.chooseFrame_eq (s : State) (f : Feed) :
    s.chooseFrame f = s.setClc f ((s.clc.get f).chosen s.now (s.mapData f)) := by
  simp only [State.chooseFrame, Clc.chosen]
  cases (s.clc.get f).link with
  | down => exact (s.setClc_get f).symm
  | up d =>
    cases (s.clc.get f).transmitter.sending with
    | some x => exact (s.setClc_get f).symm
    | none =>
      cases (s.clc.get f).timing with
      | cons n rest => rfl
      | nil => exact s.sendResponse_eq f

/-! ### What the bytes of the fetched map depend on (R164, R167) -/

theorem State.mapData_congr {s t : State} {f : Feed} (hc : t.claims.get f = s.claims.get f) (hl : t.links = s.links) :
    t.mapData f = s.mapData f := by
  simp only [State.mapData, State.claimedSet, hc, State.link_congr hl]

@[simp] theorem State.mapData_setClc (s : State) (f g : Feed) (c : Clc) : (s.setClc f c).mapData g = s.mapData g :=
  State.mapData_congr rfl rfl

/-! ### Offers -/

theorem Clc.timingOffered_of_down {c : Clc} (h : c.link = .down) (now : Nat) (map : List Byte) (n : TimingNotice) :
    c.timingOffered now map n = { c with timingLost := true } := by
  simp only [Clc.timingOffered, h]

theorem Clc.timingOffered_of_up {c : Clc} {d : Nat} (h : c.link = .up d) (now : Nat) (map : List Byte)
    (n : TimingNotice) : c.timingOffered now map n = (c.queueTiming n).chosen now map := by
  simp only [Clc.timingOffered, h]

theorem State.offerTiming_eq (s : State) (f : Feed) (n : TimingNotice) :
    s.offerTiming f n = s.setClc f ((s.clc.get f).timingOffered s.now (s.mapData f) n) := by
  cases h : (s.clc.get f).link with
  | down =>
    rw [Clc.timingOffered_of_down h]
    simp only [State.offerTiming, h]
  | up d =>
    rw [Clc.timingOffered_of_up h]
    simp [State.offerTiming, h, State.chooseFrame_eq, State.setClc_setClc]

theorem Clc.generalOffered_of_down {c : Clc} (h : c.link = .down) (now : Nat) (map : List Byte) (n : GeneralNotice) :
    c.generalOffered now map n = { c with generalLost := true } := by
  simp only [Clc.generalOffered, h]

theorem Clc.generalOffered_of_up {c : Clc} {d : Nat} (h : c.link = .up d) (now : Nat) (map : List Byte)
    (n : GeneralNotice) : c.generalOffered now map n = (c.queueGeneral n).chosen now map := by
  simp only [Clc.generalOffered, h]

theorem State.offerGeneral_eq (s : State) (f : Feed) (n : GeneralNotice) :
    s.offerGeneral f n = s.setClc f ((s.clc.get f).generalOffered s.now (s.mapData f) n) := by
  cases h : (s.clc.get f).link with
  | down =>
    rw [Clc.generalOffered_of_down h]
    simp only [State.offerGeneral, h]
  | up d =>
    rw [Clc.generalOffered_of_up h]
    simp [State.offerGeneral, h, State.chooseFrame_eq, State.setClc_setClc]

theorem State.respond_eq (s : State) (f : Feed) (tag : Byte) (r : Response) :
    s.respond f tag r =
      s.setClc f (({ s.clc.get f with slot := some ⟨tag, r, false⟩ } : Clc).chosen s.now (s.mapData f)) := by
  simp [State.respond, State.chooseFrame_eq, State.setClc_setClc]

/-- An offer changes the CLCs alone, by the CLCs, the tick and the fetched map alone. -/
theorem State.offerGeneral_clc_congr {s t : State} {f : Feed} (hc : t.clc = s.clc) (hn : t.now = s.now)
    (hm : t.mapData f = s.mapData f) (n : GeneralNotice) : (t.offerGeneral f n).clc = (s.offerGeneral f n).clc := by
  simp only [State.offerGeneral_eq, State.setClc_clc, hc, hn, hm]

theorem State.offerTiming_clc_congr {s t : State} {f : Feed} (hc : t.clc = s.clc) (hn : t.now = s.now)
    (hm : t.mapData f = s.mapData f) (n : TimingNotice) : (t.offerTiming f n).clc = (s.offerTiming f n).clc := by
  simp only [State.offerTiming_eq, State.setClc_clc, hc, hn, hm]

end Sys2Proof.Machine
end

section
/-! Chapters 1 and 3, a change of mains state handed on: what it leaves, and what it makes of the sequencer, the PDA, the
cycle link and the event queue (R13, R51, R56 to R58). -/
namespace Sys2Proof.Machine

/-! ### A claim withdrawn (R51, R71) -/

/-- The service of a list whose feeds are not the connected one begins a switch, which tells nothing. -/
theorem State.serveList_eq {s : State} (h : ∀ f ∈ s.pda.waiting, s.pda.connected ≠ some f) :
    s.serveList = s.setPda (s.pda.serveHead s.now) := by
  unfold State.serveList Pda.serveHead Pda.headClaim
  cases hw : s.pda.waiting with
  | nil => rfl
  | cons g rest =>
    have hg : s.pda.connected ≠ some g := h g (by simp [hw])
    cases hc : s.pda.claims.get g with
    | none => simp [hc, State.setPda]
    | some c =>
      have hleave : (s.pda.leaveList g).connected ≠ some g := hg
      simp [hc, State.serveAtFree, Pda.serve, hleave, State.setPda]

/-- A release changes a sound PDA alone: the claim served next is of another feed, and the relays must switch. -/
theorem State.releaseDriver_eq {s : State} (h : s.pda.Sound) (f : Feed) :
    s.releaseDriver f = s.setPda (s.pda.release f s.now) := by
  cases hc : s.pda.claims.get f with
  | none =>
    simp only [State.releaseDriver, Pda.release, hc]
    rfl
  | some c =>
    simp only [State.releaseDriver, Pda.release, hc]
    cases hs : c.status with
    | waiting | target => rfl
    | holding =>
      obtain ⟨-, -, -, hholding, -⟩ := id h
      obtain ⟨x, hx, rfl⟩ := hholding f (hs ▸ Pda.statusOf_of_claim hc)
      exact State.serveList_eq (s := s.setPda (s.pda.freeDriver.setClaim x.feed none)) (h.vacant_but_holder hx).away

theorem State.withdraw_eq {s : State} (h : s.pda.Sound) (f : Feed) :
    s.withdraw f =
      (s.setCsq f { s.csq.get f with heldClaim := none }).setPda (s.pda.withdrawn (s.csq.get f).heldClaim f s.now) := by
  unfold State.withdraw Pda.withdrawn
  cases hheld : (s.csq.get f).heldClaim with
  | some c => rw [State.releaseDriver_eq (s := s.setCsq f _) h]; rfl
  | none =>
    have hsame : ({ s.csq.get f with heldClaim := none } : Csq) = s.csq.get f := by rw [← hheld]
    simp [State.setCsq, State.setPda, hsame]

theorem State.endPlayback_clc {s : State} (h : s.pda.Sound) (f : Feed) : (s.endPlayback f).clc = s.clc := by
  rw [State.endPlayback, State.withdraw_eq (s := s.setCsq f _) h]
  rfl

/-! ### General notices offered one after the other -/

theorem State.offersGeneral_clc_congr {s t : State} {f : Feed} (hc : t.clc = s.clc) (hn : t.now = s.now)
    (hm : t.mapData f = s.mapData f) (ns : List GeneralNotice) :
    (t.offersGeneral f ns).clc = (s.offersGeneral f ns).clc := by
  induction ns generalizing s t with
  | nil => exact hc
  | cons n rest ih =>
    refine ih (s := s.offerGeneral f n) (t := t.offerGeneral f n) (State.offerGeneral_clc_congr hc hn hm n) ?_ ?_
    · simpa using hn
    · simp only [State.offerGeneral_eq, State.mapData_setClc, hm]

/-! ### The sequencer takes a change (R44, R56, R57) -/

theorem Csq.afterMains_state (q : Csq) (new : MainsState) :
    (q.afterMains new).state =
      if q.state = .running ∧ (new = .absent ∨ new = .acquiring) then .held
      else if q.state = .held ∧ new = .locked then .waitingSync
      else q.state := by
  unfold Csq.afterMains
  (repeat' split) <;> rfl

theorem State.seqTakesChange_of_left {s : State} {f : Feed} {new : MainsState} (h : (s.csq.get f).state = .running)
    (hn : new = .absent ∨ new = .acquiring) : s.seqTakesChange f new = (s.endPlayback f).enterSeq f .held := by
  obtain rfl | rfl := hn <;> simp only [State.seqTakesChange, h]

theorem State.seqTakesChange_of_locked {s : State} {f : Feed} (h : (s.csq.get f).state = .held) :
    s.seqTakesChange f .locked = s.enterSeq f .waitingSync := by
  simp only [State.seqTakesChange, h]

theorem State.seqTakesChange_of_same {s : State} {f : Feed} {new : MainsState}
    (h : ¬((s.csq.get f).state = .running ∧ (new = .absent ∨ new = .acquiring)))
    (hl : ¬((s.csq.get f).state = .held ∧ new = .locked)) : s.seqTakesChange f new = s := by
  unfold State.seqTakesChange
  split
  · rename_i hr
    exact absurd ⟨hr, .inl rfl⟩ h
  · rename_i hr
    exact absurd ⟨hr, .inr rfl⟩ h
  · rename_i hh
    exact absurd ⟨hh, rfl⟩ hl
  · rfl

/-- The FEED_STATE notice of a change of the sequencer's state (R58). -/
def State.seqNotices (s : State) (f : Feed) (new : MainsState) : List GeneralNotice :=
  if ((s.csq.get f).afterMains new).state = (s.csq.get f).state then []
  else [.feedState f (s.mtu.get f).state ((s.csq.get f).afterMains new).state (s.mtu.get f).period]

theorem State.enterSeq_clc (s : State) (f : Feed) (st : SeqState) :
    (s.enterSeq f st).clc =
      (s.offerGeneral f (.feedState f (s.mtu.get f).state st (s.mtu.get f).period)).clc := by
  have hstate : ((s.setCsq f { s.csq.get f with state := st }).csq.get f).state = st := by simp
  rw [State.enterSeq, State.offerFeedState, hstate]
  refine State.offerGeneral_clc_congr (s := s) ?_ ?_ ?_ _ <;> rfl

theorem State.seqTakesChange_clc {s : State} (h : s.pda.Sound) (f : Feed) (new : MainsState) :
    (s.seqTakesChange f new).clc = (s.offersGeneral f (s.seqNotices f new)).clc := by
  rw [State.seqNotices, Csq.afterMains_state]
  by_cases hleft : (s.csq.get f).state = .running ∧ (new = .absent ∨ new = .acquiring)
  · rw [State.seqTakesChange_of_left hleft.1 hleft.2, if_pos hleft, hleft.1, if_neg nofun, State.enterSeq_clc]
    simp only [State.endPlayback_frame]
    exact State.offerGeneral_clc_congr (State.endPlayback_clc h f) (by simp)
      (State.mapData_congr (by simp) (by simp)) _
  · rw [if_neg hleft]
    by_cases hlock : (s.csq.get f).state = .held ∧ new = .locked
    · obtain ⟨hheld, rfl⟩ := hlock
      rw [State.seqTakesChange_of_locked hheld, if_pos (c := _ ∧ MainsState.locked = .locked) ⟨hheld, rfl⟩, hheld,
        if_neg nofun, State.enterSeq_clc]
      rfl
    · rw [State.seqTakesChange_of_same hleft hlock, if_neg hlock, if_pos rfl]
      rfl

theorem State.seqTakesChange_pda_eq (s : State) (f : Feed) (new : MainsState) :
    (s.seqTakesChange f new).pda =
      if (s.csq.get f).heldClaim.isSome ∧ ((s.csq.get f).afterMains new).heldClaim = none then (s.releaseDriver f).pda
      else s.pda := by
  rw [State.releaseDriver_pda]
  by_cases hleft : (s.csq.get f).state = .running ∧ (new = .absent ∨ new = .acquiring)
  · rw [State.seqTakesChange_of_left hleft.1 hleft.2, Csq.afterMains, if_pos hleft]
    cases hheld : (s.csq.get f).heldClaim <;> simp [Pda.withdrawn, hheld]
  · have hkept : ((s.csq.get f).afterMains new).heldClaim = (s.csq.get f).heldClaim := by
      rw [Csq.afterMains, if_neg hleft]
      split <;> rfl
    rw [hkept, if_neg fun ⟨hsome, hnone⟩ => by simp [hnone] at hsome]
    by_cases hlock : (s.csq.get f).state = .held ∧ new = .locked
    · obtain ⟨hheld, rfl⟩ := hlock
      rw [State.seqTakesChange_of_locked hheld]
      simp
    · rw [State.seqTakesChange_of_same hleft hlock]

/-! ### The change handed on (R13, R58) -/

/-- The MTU and the sequencer have told their states, in either order (R58). -/
theorem Csq.feedStates_eq (q : Csq) (f : Feed) (new : MainsState) (p : Nat) (order : ChangeOrder) :
    q.feedStates f new p order =
      match order with
      | .sequencerFirst =>
          (if (q.afterMains new).state = q.state then [] else [.feedState f new (q.afterMains new).state p]) ++
            [.feedState f new (q.afterMains new).state p]
      | .noticeFirst =>
          .feedState f new q.state p ::
            if (q.afterMains new).state = q.state then [] else [.feedState f new (q.afterMains new).state p] := by
  unfold Csq.feedStates
  cases order <;> split <;> simp_all

theorem State.offersGeneral_append (s : State) (f : Feed) (l m : List GeneralNotice) :
    s.offersGeneral f (l ++ m) = (s.offersGeneral f l).offersGeneral f m := List.foldl_append ..

theorem State.handed_clc {s : State} (h : s.pda.Sound) (f : Feed) (new : MainsState) (hnew : (s.mtu.get f).state = new)
    (order : ChangeOrder) :
    (match order with
      | .sequencerFirst => (s.seqTakesChange f new).offerFeedState f
      | .noticeFirst => (s.offerFeedState f).seqTakesChange f new).clc =
      (s.offersGeneral f ((s.csq.get f).feedStates f new (s.mtu.get f).period order)).clc := by
  rw [Csq.feedStates_eq]
  cases order with
  | sequencerFirst =>
    dsimp only
    rw [State.offersGeneral_append, State.offerFeedState]
    simp only [State.seqTakesChange_frame, State.seqTakesChange_csq, PerFeed.get_set_self, hnew]
    have taken := State.seqTakesChange_clc h f new
    rw [State.seqNotices, hnew] at taken
    refine State.offerGeneral_clc_congr taken ?_ ?_ _
    · split <;> simp [State.offersGeneral]
    · refine State.mapData_congr ?_ ?_ <;> split <;> simp [State.offersGeneral]
  | noticeFirst =>
    dsimp only
    have told : (s.offerFeedState f).pda.Sound := by simpa using h
    rw [State.seqTakesChange_clc told, State.seqNotices]
    simp only [State.offerFeedState_frame, hnew]
    rw [State.offerFeedState, hnew]
    rfl

theorem State.mainsBecomes_changed {s : State} {f : Feed} {m : Mtu} (h : m.state ≠ (s.mtu.get f).state)
    (order : ChangeOrder) :
    s.mainsBecomes f m order =
      (match order with
        | .sequencerFirst => ((s.setMtu f m).seqTakesChange f m.state).offerFeedState f
        | .noticeFirst => ((s.setMtu f m).offerFeedState f).seqTakesChange f m.state).offerEvent (.mainsState f m.state) := by
  unfold State.mainsBecomes State.handMains
  exact if_neg h

/-- An MTU that keeps its state changes alone. -/
theorem State.mainsBecomes_same {s : State} {f : Feed} {m : Mtu} (h : m.state = (s.mtu.get f).state)
    (order : ChangeOrder) : s.mainsBecomes f m order = { s with mtu := s.mtu.set f m } := by
  unfold State.mainsBecomes State.handMains
  exact if_pos h

@[simp] theorem State.mainsBecomes_mtu_get (s : State) (f : Feed) (m : Mtu) (order : ChangeOrder) :
    (s.mainsBecomes f m order).mtu.get f = m := by simp

theorem State.mainsBecomes_mgp {s : State} {f : Feed} {m : Mtu} (h : m.state ≠ (s.mtu.get f).state)
    (order : ChangeOrder) :
    (s.mainsBecomes f m order).mgp =
      { s.mgp with events := offerEventTo s.mgp.events (.mainsState f m.state) } := by
  rw [State.mainsBecomes_changed h]
  cases order <;> simp [State.offerEvent]

theorem State.mainsBecomes_pda {s : State} {f : Feed} {m : Mtu} (h : m.state ≠ (s.mtu.get f).state)
    (order : ChangeOrder) :
    (s.mainsBecomes f m order).pda =
      if (s.csq.get f).heldClaim.isSome ∧ ((s.csq.get f).afterMains m.state).heldClaim = none then
        (s.releaseDriver f).pda
      else s.pda := by
  rw [State.mainsBecomes_changed h, State.releaseDriver_pda]
  cases order <;> simp [State.seqTakesChange_pda_eq]

theorem State.mainsBecomes_told {s : State} {f : Feed} {m : Mtu} (h : m.state ≠ (s.mtu.get f).state)
    (order : ChangeOrder) : s.MainsTold (s.mainsBecomes f m order) f m.state order := by
  have csq : (s.mainsBecomes f m order).csq.get f = (s.csq.get f).afterMains m.state := by
    rw [State.mainsBecomes_csq, if_neg h, PerFeed.get_set_self]
  refine ⟨csq, ?_, fun hsound => ?_⟩
  · rw [csq, State.mainsBecomes_pda h]
  · rw [State.mainsBecomes_mtu_get, State.mainsBecomes_changed h]
    have handed := State.handed_clc (s := s.setMtu f m) hsound.1 f m.state (by simp) order
    simp only [State.setMtu_mtu, State.setMtu_csq, PerFeed.get_set_self] at handed
    refine handed.trans ?_
    refine State.offersGeneral_clc_congr (s := s) ?_ ?_ ?_ _ <;> rfl

theorem State.mainsBecomes_only (s : State) (f : Feed) (m : Mtu) (order : ChangeOrder) :
    s.OnlyMainsOf (s.mainsBecomes f m order) f := by
  by_cases h : m.state = (s.mtu.get f).state
  · rw [State.mainsBecomes_same h]
    exact ⟨rfl, fun g hg => ⟨PerFeed.get_set_of_ne _ hg _, rfl⟩⟩
  · refine ⟨State.eq_of_fields (by simp) rfl rfl rfl (by simp) (by simp) (by simp) (by simp) (by simp) (by simp) rfl ?_
      (by simp) (by simp), fun g hg => ⟨?_, ?_⟩⟩
    · rw [State.mainsBecomes_mgp h]
    · rw [State.mainsBecomes_mtu, PerFeed.get_set_of_ne _ hg]
    · rw [State.mainsBecomes_csq, if_neg h, PerFeed.get_set_of_ne _ hg]

/-- The four things said of a change of mains state: the MTU, the event, what else stands, and what is told. -/
theorem State.mainsBecomes_spec {s : State} {f : Feed} {m : Mtu} (h : m.state ≠ (s.mtu.get f).state)
    (order : ChangeOrder) :
    (s.mainsBecomes f m order).mtu.get f = m ∧
      (s.mainsBecomes f m order).mgp.events = offerEventTo s.mgp.events (.mainsState f m.state) ∧
      s.OnlyMainsOf (s.mainsBecomes f m order) f ∧ s.MainsTold (s.mainsBecomes f m order) f m.state order :=
  ⟨by simp, by rw [State.mainsBecomes_mgp h], s.mainsBecomes_only f m order, State.mainsBecomes_told h order⟩

end Sys2Proof.Machine
end

section
/-! Chapter 1, edges and expiries: what each makes of its MTU, and the change handed on (O18 to O22). -/
namespace Sys2Proof.Machine

/-! ### An edge, by the state of the MTU (R1 to R4, R7, R8) -/

theorem Mtu.edge_of_absent {m : Mtu} (h : m.state = .absent) (t : Nat) (p : Polarity) : m.edge t p = m.Anchored t p := by
  simp only [Mtu.edge, h]
  rfl

theorem Mtu.edge_of_acquiring {m : Mtu} {a : Crossing} (h : m.state = .acquiring) (ha : m.last = some a) (t : Nat)
    (p : Polarity) : m.edge t p = m.acquiringEdge a t p := by
  simp only [Mtu.edge, h, ha]

theorem Mtu.edge_of_tracking {m : Mtu} {a : Crossing} (h : m.state = .locked ∨ m.state = .freeRun)
    (ha : m.last = some a) (t : Nat) (p : Polarity) : m.edge t p = m.trackingEdge a t p := by
  obtain h | h := h <;> simp only [Mtu.edge, h, ha]

/-- An edge that comes less than 187,500 ticks after the anchor only moves the silence deadline (R3). -/
theorem Mtu.acquiringEdge_of_short {m : Mtu} {a : Crossing} {t : Nat} (h : t - a.time < 187500) (p : Polarity) :
    m.acquiringEdge a t p = { m with silence := some (t + 550000) } := if_pos h

theorem Mtu.acquiringEdge_of_in_band {m : Mtu} {a : Crossing} {t : Nat} {p : Polarity} (hlow : 187500 ≤ t - a.time)
    (hhigh : t - a.time ≤ 275000) (hp : p ≠ a.polarity) :
    m.acquiringEdge a t p =
      if m.history.length + 1 = 8 then m.lock t p (m.history ++ [t - a.time])
      else
        { m with
          silence := some (t + 550000)
          history := m.history ++ [t - a.time]
          last := some ⟨t, p, .real⟩ } := by
  have hlow' : ¬t - a.time < Config.bandLow := Nat.not_lt.mpr hlow
  have hhigh' : t - a.time ≤ Config.bandHigh := hhigh
  have hgood : (decide (t - a.time ≤ Config.bandHigh) && decide (p ≠ a.polarity)) = true := by simp [hhigh', hp]
  simp only [Mtu.acquiringEdge, if_neg hlow', if_pos hgood]
  rfl

/-- An edge of the anchor's polarity, or one that comes too late, is a fresh anchor (R3). -/
theorem Mtu.acquiringEdge_of_bad {m : Mtu} {a : Crossing} {t : Nat} {p : Polarity} (hlow : 187500 ≤ t - a.time)
    (h : p = a.polarity ∨ 275000 < t - a.time) :
    m.acquiringEdge a t p =
      { m with silence := some (t + 550000), history := [], last := some ⟨t, p, .real⟩ } := by
  have hlow' : ¬t - a.time < Config.bandLow := Nat.not_lt.mpr hlow
  have hbad : ¬(decide (t - a.time ≤ Config.bandHigh) && decide (p ≠ a.polarity)) = true := by
    simp only [Bool.and_eq_true, decide_eq_true_eq, not_and, not_not]
    exact fun hhigh => h.resolve_right (Nat.not_lt.mpr hhigh)
  simp only [Mtu.acquiringEdge, if_neg hlow', if_neg hbad]
  rfl

/-! ### An edge taken by the state -/

theorem exec_mainsEdge (f : Feed) (p : Polarity) (o : ChangeOrder) (s : State) :
    exec (.mainsEdge f p o) s = .next (s.mainsBecomes f ((s.mtu.get f).edge s.now p) o) := rfl

/-- An edge that keeps the mains state changes the MTU alone. -/
theorem exec_mainsEdge_same {s : State} {f : Feed} {p : Polarity} {m : Mtu} (hm : (s.mtu.get f).edge s.now p = m)
    (h : m.state = (s.mtu.get f).state) (o : ChangeOrder) :
    exec (.mainsEdge f p o) s = .next { s with mtu := s.mtu.set f m } := by
  rw [exec_mainsEdge, hm, State.mainsBecomes_same h]

/-- Settles O18: in ABSENT an edge is an anchor, and the change to ACQUIRING is handed on; in ACQUIRING an edge that does
not lock keeps the state, so the MTU alone changes. -/
theorem edgesBeforeLockAreJudged : Obligations.EdgesBeforeLockAreJudged := by
  refine ⟨fun f p o s h => ⟨_, exec_mainsEdge f p o s, ?_⟩, fun f p o s m a hm hacq ha => ?_⟩
  · rw [Mtu.edge_of_absent h]
    exact State.mainsBecomes_spec (m := (s.mtu.get f).Anchored s.now p) (by rw [h]; nofun) o
  · subst hm
    have edge := Mtu.edge_of_acquiring hacq ha s.now p
    refine ⟨fun hshort => ?_, fun hlow hhigh hp hlen => ?_, fun hlow hbad => ?_⟩
    · exact exec_mainsEdge_same (edge.trans (Mtu.acquiringEdge_of_short hshort p)) rfl o
    · have joined := Mtu.acquiringEdge_of_in_band hlow hhigh hp (m := s.mtu.get f)
      rw [if_neg (by omega)] at joined
      exact exec_mainsEdge_same (edge.trans joined) rfl o
    · exact exec_mainsEdge_same (edge.trans (Mtu.acquiringEdge_of_bad hlow hbad)) rfl o

/-- The eighth interval locks (R4): the edge's own origin is never late. -/
theorem Mtu.lock_eq (m : Mtu) (t : Nat) (p : Polarity) (history : List Nat) :
    m.lock t p history =
      { m with
        state := .locked
        period := history.sum / 8
        history := history
        last := some ⟨t, p, .real⟩
        silence := none
        window := some ⟨t + history.sum / 8 - history.sum / 8 / 64, t + history.sum / 8 + history.sum / 8 / 64⟩
        deviantRun := 0
        missRun := 0
        pendingOrigin := some ⟨t + m.offset, p, history.sum / 8⟩ } := by
  have hmax : max (t + m.offset) t = t + m.offset := by omega
  rw [← hmax]
  rfl

/-- Settles O19. -/
theorem eighthIntervalLocks : Obligations.EighthIntervalLocks := by
  rintro f p o s m a e rfl hacq ha hlen hp hlow hhigh rfl
  refine ⟨_, exec_mainsEdge f p o s, ?_⟩
  rw [Mtu.edge_of_acquiring hacq ha, Mtu.acquiringEdge_of_in_band hlow hhigh hp, if_pos (by omega), Mtu.lock_eq,
    List.sum_append, List.sum_singleton]
  exact State.mainsBecomes_spec (by rw [hacq]; nofun) o

/-! ### Edges while tracking (R7, R8) -/

theorem opposite_of_ne {p q : Polarity} (h : p ≠ q) : p = opposite q := by
  cases p <;> cases q <;> simp_all [opposite]

theorem ne_of_opposite (p : Polarity) : p ≠ opposite p := by cases p <;> nofun

theorem Mtu.accepts_iff {m : Mtu} {a : Crossing} {w : AcceptWindow} {t : Nat} {p : Polarity} (hw : m.window = some w) :
    m.accepts a t p = true ↔
      p ≠ a.polarity ∧ w.opens ≤ t ∧ t ≤ w.closes ∧ 187500 ≤ t - a.time ∧ t - a.time ≤ 275000 := by
  have hpol : p = opposite a.polarity ↔ p ≠ a.polarity :=
    ⟨fun h => h ▸ (ne_of_opposite a.polarity).symm, opposite_of_ne⟩
  simp only [Mtu.accepts, hw, Option.any_some, AcceptWindow.holds, Bool.and_eq_true, decide_eq_true_eq, inBand_iff, hpol,
    and_assoc]

/-- A real crossing (R7): the estimate follows the history only between two real crossings. -/
theorem Mtu.accept_eq {m : Mtu} {a : Crossing} {t : Nat} {p : Polarity} {hist : List Nat} {e : Nat}
    (hreal : a.kind = .real → hist = m.history.drop 1 ++ [t - a.time] ∧ e = hist.sum / 8)
    (hsyn : a.kind = .synthesised → hist = m.history ∧ e = m.period) :
    m.accept a t p =
      { m with
        state := .locked
        period := e
        history := hist
        last := some ⟨t, p, .real⟩
        window := some ⟨t + e - e / 64, t + e + e / 64⟩
        deviantRun := 0
        missRun := 0
        pendingOrigin := some ⟨t + m.offset, p, e⟩ } := by
  have hmax : max (t + m.offset) t = t + m.offset := by omega
  rw [← hmax]
  unfold Mtu.accept
  cases hk : a.kind with
  | real =>
    obtain ⟨rfl, rfl⟩ := hreal hk
    rfl
  | synthesised =>
    obtain ⟨rfl, rfl⟩ := hsyn hk
    rfl

/-- Settles O20: in LOCKED the accepted edge keeps the state, so the MTU alone changes. -/
theorem edgeInTheWindowIsAccepted : Obligations.EdgeInTheWindowIsAccepted := by
  rintro f p o s m a w hist e rfl htrack ha hw hp hopen hclose hlow hhigh hreal hsyn
  refine ⟨_, exec_mainsEdge f p o s, ?_⟩
  rw [Mtu.edge_of_tracking htrack ha, Mtu.trackingEdge, if_pos ((Mtu.accepts_iff hw).2 ⟨hp, hopen, hclose, hlow, hhigh⟩),
    Mtu.accept_eq hreal hsyn]
  refine ⟨by simp, State.mainsBecomes_only .., fun hlocked => ?_, fun hfree => ?_⟩
  · rw [State.mainsBecomes_same hlocked.symm]
  · have hne : MainsState.locked ≠ (s.mtu.get f).state := by rw [hfree]; nofun
    exact ⟨by rw [State.mainsBecomes_mgp hne], State.mainsBecomes_told hne o⟩

/-- Settles O21. -/
theorem edgeOutsideTheWindowIsDeviant : Obligations.EdgeOutsideTheWindowIsDeviant := by
  rintro f p o s m a w rfl htrack ha hw
  have edge := Mtu.edge_of_tracking htrack ha s.now p
  rw [Mtu.trackingEdge] at edge
  refine ⟨fun hout => ?_, fun hlow hhigh hbad => ?_⟩
  · have hband : ¬inBand (s.now - a.time) = true := by rw [inBand_iff]; omega
    rw [if_neg fun h => hband (inBand_iff.2 ((Mtu.accepts_iff hw).1 h).2.2.2), if_neg hband] at edge
    rw [exec_mainsEdge_same edge rfl, PerFeed.set_get]
  · have hno : ¬(s.mtu.get f).accepts a s.now p = true := fun h => by
      obtain ⟨hp, hopen, hclose, -⟩ := (Mtu.accepts_iff hw).1 h
      obtain hp' | h | h := hbad
      · exact hp hp'
      · omega
      · omega
    rw [if_neg hno, if_pos (inBand_iff.2 ⟨hlow, hhigh⟩)] at edge
    refine ⟨fun hfew => ?_, fun hlast => ⟨_, exec_mainsEdge f p o s, ?_⟩⟩
    · rw [if_neg (by omega)] at edge
      exact exec_mainsEdge_same edge rfl o
    · rw [if_pos (by omega)] at edge
      rw [edge]
      refine State.mainsBecomes_spec (m := (s.mtu.get f).Anchored s.now p) (fun h => ?_) o
      obtain ht | ht := htrack <;> rw [ht] at h <;> cases h

/-! ### Expiries (R5, R9) -/

theorem Mtu.silenceDue_iff {m : Mtu} {d now : Nat} (h : m.state = .acquiring) (hd : m.silence = some d) :
    m.silenceDue now = true ↔ d ≤ now := by simp [Mtu.silenceDue, h, hd]

theorem Mtu.windowDue_iff {m : Mtu} {w : AcceptWindow} {now : Nat} (h : m.state = .locked ∨ m.state = .freeRun)
    (hw : m.window = some w) : m.windowDue now = true ↔ w.closes ≤ now := by simp [Mtu.windowDue, h, hw]

theorem exec_silenceDeadlineExpiry (f : Feed) (o : ChangeOrder) (s : State) :
    exec (.silenceDeadlineExpiry f o) s =
      .next (if (s.mtu.get f).silenceDue s.now then s.mainsBecomes f (s.mtu.get f).Absent o else s) := rfl

theorem exec_acceptanceWindowExpiry (f : Feed) (o : ChangeOrder) (s : State) :
    exec (.acceptanceWindowExpiry f o) s =
      .next (if (s.mtu.get f).windowDue s.now then s.mainsBecomes f ((s.mtu.get f).expireWindow s.now) o else s) := rfl

theorem Mtu.expireWindow_of_few {m : Mtu} {a : Crossing} (ha : m.last = some a) (h : m.missRun < 49) (now : Nat) :
    m.expireWindow now =
      { m with
        state := .freeRun
        last := some ⟨a.time + m.period, opposite a.polarity, .synthesised⟩
        window := some ⟨a.time + m.period + m.period - m.period / 64, a.time + m.period + m.period + m.period / 64⟩
        missRun := m.missRun + 1
        pendingOrigin := some ⟨max (a.time + m.period + m.offset) now, opposite a.polarity, m.period⟩ } := by
  simp only [Mtu.expireWindow, ha, if_pos (show m.missRun + 1 < 50 by omega)]
  rfl

theorem Mtu.expireWindow_of_last {m : Mtu} {a : Crossing} (ha : m.last = some a) (h : m.missRun = 49) (now : Nat) :
    m.expireWindow now = m.Absent := by
  simp only [Mtu.expireWindow, ha, if_neg (show ¬m.missRun + 1 < 50 by omega)]
  rfl

/-- Settles O22. -/
theorem silentMainsIsBridgedThenLost : Obligations.SilentMainsIsBridgedThenLost := by
  refine ⟨fun f o s d hacq hd => ⟨fun hdue => ⟨_, exec_silenceDeadlineExpiry f o s, ?_⟩, fun hwait => ?_⟩, ?_⟩
  · rw [if_pos ((Mtu.silenceDue_iff hacq hd).2 hdue)]
    exact State.mainsBecomes_spec (m := (s.mtu.get f).Absent) (by rw [hacq]; nofun) o
  · rw [exec_silenceDeadlineExpiry, if_neg (by rw [Mtu.silenceDue_iff hacq hd]; omega)]
  · rintro f o s m a w e rfl htrack ha hw rfl
    rw [exec_acceptanceWindowExpiry]
    refine ⟨fun hwait => ?_, fun hdue => ?_⟩
    · rw [if_neg (by rw [Mtu.windowDue_iff htrack hw]; omega)]
    rw [if_pos ((Mtu.windowDue_iff htrack hw).2 hdue)]
    refine ⟨fun hfew => ⟨_, rfl, ?_⟩, fun hlast => ⟨_, rfl, ?_⟩⟩
    · rw [Mtu.expireWindow_of_few ha hfew]
      refine ⟨by simp, State.mainsBecomes_only .., fun hfree => ?_, fun hlocked => ?_⟩
      · rw [State.mainsBecomes_same hfree.symm]
      · have hne : MainsState.freeRun ≠ (s.mtu.get f).state := by rw [hlocked]; nofun
        exact ⟨by rw [State.mainsBecomes_mgp hne], State.mainsBecomes_told hne o⟩
    · rw [Mtu.expireWindow_of_last ha hlast]
      refine State.mainsBecomes_spec (m := (s.mtu.get f).Absent) (fun h => ?_) o
      obtain ht | ht := htrack <;> rw [ht] at h <;> cases h

end Sys2Proof.Machine
end

section
/-! Chapter 3, the playing of a half-cycle and of a window: the notices it offers and the operations it is made of (O23,
O24). -/
namespace Sys2Proof.Machine

/-! ### Timing notices offered one after the other -/

theorem State.offerTiming_clc_only (s : State) (f : Feed) (n : TimingNotice) :
    s.offerTiming f n = { s with clc := (s.offerTiming f n).clc } := by
  rw [State.offerTiming_eq]
  rfl

theorem State.offersTiming_clc_only (s : State) (f : Feed) (ns : List TimingNotice) :
    s.offersTiming f ns = { s with clc := (s.offersTiming f ns).clc } := by
  induction ns generalizing s with
  | nil => rfl
  | cons n rest ih =>
    have h := ih (s.offerTiming f n)
    rw [s.offerTiming_clc_only] at h
    rw [show s.offersTiming f (n :: rest) = (s.offerTiming f n).offersTiming f rest from rfl, s.offerTiming_clc_only]
    exact h

/-- An offer of a timing notice does not see what the notices do not tell: it commutes with changes of other blocks. -/
theorem State.windowInfo_congr {s t : State} (hs : t.streams = s.streams) (hn : t.stations = s.stations) (w : Window)
    (i : SlotNo) (skipped : Bool) : t.windowInfo w i skipped = s.windowInfo w i skipped := by
  simp only [State.windowInfo, State.streamEnds, State.addressOf, State.stream_congr hs, State.station_congr hn]

theorem State.claimClass_congr {s t : State} (hs : t.streams = s.streams) (f : Feed) (w : Window) :
    t.claimClass f w = s.claimClass f w := by
  simp only [State.claimClass, State.stream_congr hs]

theorem State.windowNotice_congr {s t : State} (hs : t.streams = s.streams) (hn : t.stations = s.stations) {f : Feed}
    (hb : (t.csq.get f).currentBank = (s.csq.get f).currentBank)
    (hc : (t.csq.get f).beaconCount = (s.csq.get f).beaconCount) (i : SlotNo) (d : Nat) (skipped : Bool) :
    t.windowNotice f i d skipped = s.windowNotice f i d skipped := by
  simp only [State.windowNotice, hb, hc, State.claimClass_congr hs, State.windowInfo_congr hs hn]

theorem State.offerWindow_eq (s : State) (f : Feed) (i : SlotNo) (d : Nat) (skipped : Bool) :
    s.offerWindow f i d skipped = s.offerTiming f (s.windowNotice f i d skipped) := by
  have hslot : (i.val ≠ 0) = (i ≠ 0) := propext (Fin.val_ne_zero_iff ..)
  simp only [State.offerWindow, State.windowNotice, hslot]

theorem State.offerWindows_eq (s : State) (f : Feed) (l : List ArmedStart) :
    (s.forEach l fun t a => t.offerWindow f a.slot 0 true) =
      s.offersTiming f (l.map fun a => s.windowNotice f a.slot 0 true) := by
  induction l generalizing s with
  | nil => rfl
  | cons a rest ih =>
    have same (i : SlotNo) :
        (s.offerWindow f a.slot 0 true).windowNotice f i 0 true = s.windowNotice f i 0 true :=
      State.windowNotice_congr (by simp) (by simp) (by simp) (by simp) i 0 true
    rw [show s.forEach (a :: rest) (fun t a => t.offerWindow f a.slot 0 true) =
      (s.offerWindow f a.slot 0 true).forEach rest fun t a => t.offerWindow f a.slot 0 true from rfl, ih]
    simp only [same]
    rw [State.offerWindow_eq]
    rfl

theorem State.skipUnreached_eq (s : State) (f : Feed) :
    s.skipUnreached f =
      { s.offersTiming f ((s.csq.get f).armed.map fun a => s.windowNotice f a.slot 0 true) with
        csq := s.csq.set f { s.csq.get f with armed := [] } } := by
  rw [State.skipUnreached, State.offerWindows_eq]
  rw [State.offersTiming_clc_only]
  rfl

/-! ### The exchange of the banks (R33, R37) -/

theorem State.dropWindow_congr {s t : State} (hn : t.stations = s.stations) (hs : t.streams = s.streams) (w : Window) :
    (t.dropWindow w).stations = (s.dropWindow w).stations ∧ (t.dropWindow w).streams = (s.dropWindow w).streams := by
  unfold State.dropWindow
  cases w.kind <;>
    simp [State.dropStream, State.dropStation, State.setStream, State.setStation, State.stream, State.station, hn, hs]

theorem State.dropWindows_congr (b : Bank) (l : List SlotNo) {s t : State} (hn : t.stations = s.stations)
    (hs : t.streams = s.streams) :
    (t.forEach l fun u i => u.dropWindow (b.slot i)).stations = (s.forEach l fun u i => u.dropWindow (b.slot i)).stations ∧
      (t.forEach l fun u i => u.dropWindow (b.slot i)).streams = (s.forEach l fun u i => u.dropWindow (b.slot i)).streams := by
  induction l generalizing s t with
  | nil => exact ⟨hn, hs⟩
  | cons i rest ih =>
    obtain ⟨hn', hs'⟩ := State.dropWindow_congr hn hs (b.slot i)
    exact ih (s := s.dropWindow (b.slot i)) (t := t.dropWindow (b.slot i)) hn' hs'

/-- The release of a bank changes the counts alone, by the counts alone (R33). -/
theorem State.releaseBank_eq {s t : State} (hn : t.stations = s.stations) (hs : t.streams = s.streams) (b : Bank) :
    t.releaseBank b =
      { t with stations := (s.releaseBank b).stations, streams := (s.releaseBank b).streams } := by
  obtain ⟨hn', hs'⟩ := State.dropWindows_congr b b.slotList hn hs
  exact State.eq_of_fields (by simp) (by simp) (by simp) (by simp) hn' hs' (by simp) (by simp) (by simp) (by simp)
    (by simp) (by simp) (by simp) (by simp)

theorem State.exchangeRoles_eq {s t : State} (hn : t.stations = s.stations) (hs : t.streams = s.streams) (f : Feed) :
    t.exchangeRoles f =
      { t with
        csq := t.csq.set f { t.csq.get f with current := (t.csq.get f).pendingNo, pendingState := .edit }
        stations := (s.releaseBank (t.csq.get f).currentBank).stations
        streams := (s.releaseBank (t.csq.get f).currentBank).streams
        mgp := { t.mgp with
          events := offerEventTo t.mgp.events (.scheduleSwapped f (t.csq.get f).beaconCount) } } := by
  rw [State.exchangeRoles, State.releaseBank_eq hn hs]
  rfl

/-! ### The fields that playing keeps -/

theorem Csq.counted_fields (q : Csq) :
    q.counted.state = q.state ∧ q.counted.halfIndex = q.halfIndex ∧ q.counted.beaconCount = q.beaconCount ∧
      q.counted.halfCycle = q.halfCycle := by
  unfold Csq.counted
  split
  · exact ⟨rfl, rfl, rfl, rfl⟩
  · split <;> exact ⟨rfl, rfl, rfl, rfl⟩

theorem Csq.played_fields (q : Csq) (half : Nat) (o : OriginRecord) :
    (q.played half o).state = q.state ∧ (q.played half o).halfIndex = half ∧
      (q.played half o).beaconCount = (if half = 0 then q.beaconCount + 1 else q.beaconCount) ∧
      (q.played half o).halfCycle = ⟨o.t0, o.polarity, o.estimate⟩ := by
  simp only [Csq.played]
  split
  · obtain ⟨h1, h2, h3, h4⟩ := Csq.counted_fields
      { q with
        armed := []
        halfIndex := half
        halfCycle := ⟨o.t0, o.polarity, o.estimate⟩
        currentWindow := none
        beaconCount := q.beaconCount + 1 }
    exact ⟨h1, h2, h3, h4⟩
  · exact ⟨rfl, rfl, rfl, rfl⟩

/-- A sequencer once an origin has been taken and its starts armed. -/
theorem State.playHalf_csq (s : State) (f : Feed) (half : Nat) (o : OriginRecord) (order : BoundaryOrder) :
    ∃ window armed held, (s.playHalf f half o order).csq =
      s.csq.set f { (s.csq.get f).played half o with
        currentWindow := window, armed := armed, heldClaim := held } := by
  rw [State.playHalf_eq]
  obtain ⟨window, armed, held, h⟩ := (s.playedHalf f half o order).armStarts_csq f
  exact ⟨window, armed, held, by rw [h]; simp⟩

theorem State.playHalf_fields (s : State) (f : Feed) (half : Nat) (o : OriginRecord) (order : BoundaryOrder) :
    ((s.playHalf f half o order).csq.get f).state = (s.csq.get f).state ∧
      ((s.playHalf f half o order).csq.get f).halfIndex = half ∧
      ((s.playHalf f half o order).csq.get f).beaconCount =
        (if half = 0 then (s.csq.get f).beaconCount + 1 else (s.csq.get f).beaconCount) ∧
      ((s.playHalf f half o order).csq.get f).halfCycle = ⟨o.t0, o.polarity, o.estimate⟩ ∧
      ∀ g, g ≠ f → (s.playHalf f half o order).csq.get g = s.csq.get g := by
  obtain ⟨window, armed, held, h⟩ := s.playHalf_csq f half o order
  obtain ⟨h1, h2, h3, h4⟩ := (s.csq.get f).played_fields half o
  rw [h, PerFeed.get_set_self]
  exact ⟨h1, h2, h3, h4, fun g hg => PerFeed.get_set_of_ne _ hg _⟩

/-! ### An origin taken (R44, R45) -/

theorem exec_origin {s : State} {f : Feed} {o : PendingOrigin} (ho : (s.mtu.get f).pendingOrigin = some o)
    (hdue : o.time ≤ s.now) (b : BoundaryOrder) :
    exec (.origin f b) s =
      .next ((s.setMtu f ((s.mtu.get f).originReached o)).takeOrigin f ⟨o.time, o.polarity, o.estimate⟩ b) := by
  show execOrigin f b s = _
  simp only [execOrigin, ho, if_pos hdue]

theorem State.takeOrigin_of_running {s : State} {f : Feed} (h : (s.csq.get f).state = .running) (o : OriginRecord)
    (order : BoundaryOrder) :
    s.takeOrigin f o order = s.playHalf f (((s.csq.get f).halfIndex + 1) % (s.csq.get f).beaconLen) o order := by
  simp only [State.takeOrigin, h]

theorem State.takeOrigin_of_waiting {s : State} {f : Feed} (h : (s.csq.get f).state = .waitingSync) (o : OriginRecord)
    (order : BoundaryOrder) :
    s.takeOrigin f o order = if o.polarity = .positive then (s.enterSeq f .running).playHalf f 0 o order else s := by
  simp only [State.takeOrigin, h]

theorem State.takeOrigin_of_idle {s : State} {f : Feed} (h : (s.csq.get f).state = .stopped ∨ (s.csq.get f).state = .held)
    (o : OriginRecord) (order : BoundaryOrder) : s.takeOrigin f o order = s := by
  obtain h | h := h <;> simp only [State.takeOrigin, h]

theorem Mtu.originReached_eq (m : Mtu) (o : PendingOrigin) :
    m.originReached o =
      { m with
        pendingOrigin := none
        originMark := some ⟨o.time, o.polarity⟩
        originEstimate := o.estimate
        zonesDue := m.boundaries.zipIdx.map fun x => ⟨x.2 + 1, x.1, o.time + x.1 * o.estimate / 256⟩ } := rfl

theorem State.takeOrigin_stands (s : State) (f : Feed) (o : OriginRecord) (order : BoundaryOrder) :
    (s.takeOrigin f o order).mtu = s.mtu ∧ (s.takeOrigin f o order).now = s.now ∧
      (s.takeOrigin f o order).notch = s.notch ∧ ∀ g, g ≠ f → (s.takeOrigin f o order).csq.get g = s.csq.get g := by
  refine ⟨by simp, by simp, by simp, fun g hg => ?_⟩
  obtain h | ⟨-, h⟩ | ⟨-, h⟩ := s.takeOrigin_cases f o order <;> rw [h]
  · exact (s.playHalf_fields f _ o order).2.2.2.2 g hg
  · rw [((s.enterSeq f .running).playHalf_fields f 0 o order).2.2.2.2 g hg, State.enterSeq_csq,
      PerFeed.get_set_of_ne _ hg]

/-- A positive origin in WAITING_SYNC starts playback at half index 0 (R44). -/
theorem State.takeOrigin_starts {s : State} {f : Feed} (h : (s.csq.get f).state = .waitingSync) {o : OriginRecord}
    (hp : o.polarity = .positive) (b : BoundaryOrder) :
    ((s.takeOrigin f o b).csq.get f).state = .running ∧ ((s.takeOrigin f o b).csq.get f).halfIndex = 0 ∧
      ((s.takeOrigin f o b).csq.get f).beaconCount = (s.csq.get f).beaconCount + 1 ∧
      ((s.takeOrigin f o b).csq.get f).halfCycle = ⟨o.t0, o.polarity, o.estimate⟩ ∧
      s.takeOrigin f o b =
        ((s.setCsq f { s.csq.get f with state := .running }).offerGeneral f
          (.feedState f (s.mtu.get f).state .running (s.mtu.get f).period)).playHalf f 0 o b := by
  rw [State.takeOrigin_of_waiting h, if_pos hp]
  obtain ⟨h1, h2, h3, h4, -⟩ := (s.enterSeq f .running).playHalf_fields f 0 o b
  rw [State.enterSeq_csq, PerFeed.get_set_self] at h1 h3
  refine ⟨h1, h2, h3, h4, ?_⟩
  simp only [State.enterSeq, State.offerFeedState, State.setCsq_csq, State.setCsq_mtu, PerFeed.get_set_self]

/-- An origin in RUNNING advances the half index (R45). -/
theorem State.takeOrigin_advances {s : State} {f : Feed} (h : (s.csq.get f).state = .running) (o : OriginRecord)
    (b : BoundaryOrder) :
    ((s.takeOrigin f o b).csq.get f).state = .running ∧
      ((s.takeOrigin f o b).csq.get f).halfIndex = ((s.csq.get f).halfIndex + 1) % (s.csq.get f).beaconLen ∧
      ((s.takeOrigin f o b).csq.get f).beaconCount =
        (if ((s.csq.get f).halfIndex + 1) % (s.csq.get f).beaconLen = 0 then (s.csq.get f).beaconCount + 1
          else (s.csq.get f).beaconCount) ∧
      ((s.takeOrigin f o b).csq.get f).halfCycle = ⟨o.t0, o.polarity, o.estimate⟩ ∧
      s.takeOrigin f o b =
        s.playHalf f (((s.csq.get f).halfIndex + 1) % (s.csq.get f).beaconLen) o b := by
  rw [State.takeOrigin_of_running h]
  obtain ⟨h1, h2, h3, h4, -⟩ := s.playHalf_fields f (((s.csq.get f).halfIndex + 1) % (s.csq.get f).beaconLen) o b
  exact ⟨h1.trans h, h2, h3, h4, rfl⟩

/-- STOPPED, HELD and a negative origin in WAITING_SYNC (R44). -/
theorem State.takeOrigin_ignored {s : State} {f : Feed} {o : OriginRecord}
    (h : (s.csq.get f).state = .stopped ∨ (s.csq.get f).state = .held ∨
      (s.csq.get f).state = .waitingSync ∧ o.polarity = .negative) (b : BoundaryOrder) : s.takeOrigin f o b = s := by
  obtain h | h | ⟨h, hp⟩ := h
  · exact State.takeOrigin_of_idle (.inl h) o b
  · exact State.takeOrigin_of_idle (.inr h) o b
  · rw [State.takeOrigin_of_waiting h, hp, if_neg nofun]

/-! ### Zone events (R15, R48) -/

theorem exec_zoneEvent {s : State} {f : Feed} {z : ZoneDue} {rest : List ZoneDue}
    (hz : (s.mtu.get f).zonesDue = z :: rest) (hdue : z.time ≤ s.now) :
    exec (.zoneEvent f) s =
      .next (if (s.csq.get f).state = .running then
        (s.setMtu f { s.mtu.get f with zonesDue := rest }).offerZone f z.zone z.phase
      else s.setMtu f { s.mtu.get f with zonesDue := rest }) := by
  show execZoneEvent f s = _
  simp only [execZoneEvent, hz, if_pos hdue]

theorem State.offerZone_eq {s : State} {f : Feed} {q : Csq} {n : Nat} (hq : s.csq.get f = q)
    (hn : (s.mtu.get f).boundaries.length + 1 = n) (zone phase : Nat) :
    s.offerZone f zone phase = s.offerTiming f (.zone q.halfIndex q.halfCycle.polarity zone phase n) := by
  subst hq hn
  rfl

/-! ### The steps of R46 -/

theorem State.playHalf_inside (s : State) (f : Feed) (h : Nat) (r : OriginRecord) (b : BoundaryOrder) (hh : h ≠ 0) :
    s.playHalf f h r b =
      ((({ s.offersTiming f ((s.csq.get f).armed.map fun a => s.windowNotice f a.slot 0 true) with
          csq := s.csq.set f
            { s.csq.get f with
              armed := [], halfIndex := h, halfCycle := ⟨r.t0, r.polarity, r.estimate⟩ } } : State).offerTiming f
        (.zone h r.polarity 0 0 ((s.mtu.get f).boundaries.length + 1))).armStarts f) := by
  simp only [State.playHalf, if_neg hh, State.skipUnreached_eq]
  rw [State.offersTiming_clc_only]
  simp only [State.setCsq, PerFeed.get_set_self, PerFeed.set_set]
  rw [State.offerZone_eq (PerFeed.get_set_self ..) rfl]

/-- The countdown at a beacon boundary (R37). -/
theorem State.countPending_of_edit {s : State} {f : Feed} (h : (s.csq.get f).pendingState = .edit) :
    s.countPending f = s := by
  simp only [State.countPending, h]

theorem State.countPending_of_counting {s : State} {f : Feed} {c : Nat} (h : (s.csq.get f).pendingState = .counting c) :
    s.countPending f =
      if c ≤ 1 then s.exchangeRoles f else s.setCsq f { s.csq.get f with pendingState := .counting (c - 1) } := by
  simp only [State.countPending, h]

end Sys2Proof.Machine
end

section
/-! Chapter 3, the playing of a half-cycle and of a window, settled (O23, O24). -/
namespace Sys2Proof.Machine

/-! ### A half-cycle with a beacon boundary (R46, R37) -/

/-- What a beacon boundary finds once the starts left over are told (R46 steps 1 to 3). -/
def State.atBoundary (s : State) (f : Feed) (r : OriginRecord) : State :=
  { s.offersTiming f ((s.csq.get f).armed.map fun a => s.windowNotice f a.slot 0 true) with
    csq := s.csq.set f
      { s.csq.get f with
        armed := []
        halfIndex := 0
        halfCycle := ⟨r.t0, r.polarity, r.estimate⟩
        currentWindow := none
        beaconCount := (s.csq.get f).beaconCount + 1 } }

theorem State.playHalf_boundary (s : State) (f : Feed) (r : OriginRecord) (b : BoundaryOrder) :
    s.playHalf f 0 r b =
      (((((s.atBoundary f r).countPending f).offerBeaconStart f).handBoundary f b).offerZone f 0 0).armStarts f := by
  simp only [State.playHalf, if_true, State.skipUnreached_eq, State.playBoundary, State.atBoundary]
  rw [State.offersTiming_clc_only]
  simp only [State.setCsq, PerFeed.get_set_self, PerFeed.set_set]

/-- The notices of a beacon boundary, by the sequencer that the count leaves (R46). -/
theorem State.boundary_notices {s : State} {f : Feed} {q : Csq} {n : Nat} (hq : s.csq.get f = q)
    (hn : (s.mtu.get f).boundaries.length + 1 = n) (b : BoundaryOrder) :
    ((s.offerBeaconStart f).handBoundary f b).offerZone f 0 0 =
      ((s.offerTiming f (.beaconStart q.beaconCount q.halfCycle.estimate q.beaconLen n q.pendingState.countdown)).handBoundary
        f b).offerTiming f (.zone q.halfIndex q.halfCycle.polarity 0 0 n) := by
  subst hq hn
  rw [State.offerZone_eq (q := s.csq.get f) (n := (s.mtu.get f).boundaries.length + 1) (by simp) (by simp)]
  rfl

/-! ### The boundary handed on (R46, R152) -/

theorem State.SameTables.liveLinks {s t : State} (h : s.SameTables t) (f : Feed) : t.liveLinks f = s.liveLinks f := by
  have live (l : LinkNo) : t.liveOn f l = s.liveOn f l := by
    have hl := h.live l
    unfold State.liveOn
    cases ht : t.link l <;> cases hs : s.link l <;> simp_all [Link.owner]
  simp only [State.liveLinks, funext live]

theorem State.storeBoundary_runs (s : State) (f : Feed) : s.Runs (s.storeBoundary f) :=
  State.Runs.forEach (fun s l => .countLink s l) _ s

theorem State.superviseBoundary_runs (s : State) (f : Feed) : s.Runs (s.superviseBoundary f) :=
  State.Runs.forEach (fun s l => .idleLink s l) _ s

theorem State.handBoundary_eq (s : State) (f : Feed) :
    s.handBoundary f .storeFirst = (s.liveLinks f).foldl State.idleLink ((s.liveLinks f).foldl State.countLink s) ∧
      s.handBoundary f .supervisorFirst =
        (s.liveLinks f).foldl State.countLink ((s.liveLinks f).foldl State.idleLink s) := by
  constructor
  · show (s.storeBoundary f).superviseBoundary f = _
    rw [State.superviseBoundary, (s.storeBoundary_runs f).sameTables.liveLinks]
    rfl
  · show (s.superviseBoundary f).storeBoundary f = _
    rw [State.storeBoundary, (s.superviseBoundary_runs f).sameTables.liveLinks]
    rfl

/-! ### Starts armed (R46 step 5) -/

theorem Bank.starts_eq (b : Bank) (half t0 estimate : Nat) :
    b.starts half t0 estimate =
      ((List.finRange 32).filter fun i => i.val < b.count.val && (b.slot i).half.val = half).map fun i =>
        ⟨i, t0 + (b.slot i).phase.val * estimate / 256⟩ := by
  rw [Bank.starts, Bank.slotList, List.filter_filter]
  simp only [Bool.and_comm]
  rfl

theorem State.armStarts_nil {s : State} {f : Feed}
    (h : (s.csq.get f).currentBank.starts (s.csq.get f).halfIndex (s.csq.get f).halfCycle.t0
      (s.csq.get f).halfCycle.estimate = []) : s.armStarts f = s.setCsq f { s.csq.get f with armed := [] } := by
  simp only [State.armStarts, h]

theorem State.armStarts_cons {s : State} {f : Feed} {a : ArmedStart} {rest : List ArmedStart}
    (h : (s.csq.get f).currentBank.starts (s.csq.get f).halfIndex (s.csq.get f).halfCycle.t0
      (s.csq.get f).halfCycle.estimate = a :: rest) :
    s.armStarts f =
      if ((s.csq.get f).currentBank.slot a.slot).phase.val = 0 then
        (s.setCsq f { s.csq.get f with armed := a :: rest }).startWindow f a.slot
      else s.setCsq f { s.csq.get f with armed := a :: rest } := by
  simp only [State.armStarts, h]

theorem exec_windowStart {s : State} {f : Feed} {a : ArmedStart} {rest : List ArmedStart}
    (hr : (s.csq.get f).state = .running) (ha : (s.csq.get f).armed = a :: rest) (hdue : a.time ≤ s.now) :
    exec (.windowStart f) s = .next (s.startWindow f a.slot) := by
  show execWindowStart f s = _
  simp only [execWindowStart, hr, ha, if_pos hdue]

/-- A start at phase 0 is reached with the origin. -/
theorem Bank.starts_time {b : Bank} {half t0 estimate : Nat} {a : ArmedStart} (h : a ∈ b.starts half t0 estimate)
    (hp : (b.slot a.slot).phase.val = 0) : a.time = t0 := by
  rw [Bank.starts, List.mem_map] at h
  obtain ⟨i, -, rfl⟩ := h
  simp only [phaseTicks, hp]
  omega

/-- Settles O23, part by part: the origin at the MTU and the sequencer, zone events, the playing of a half-cycle, the
boundary handed on, and the starts armed. -/
theorem originAndZonesOfAHalfCycle : Obligations.OriginAndZonesOfAHalfCycle := by
  refine ⟨?_, ?_, ?_, fun f s => s.handBoundary_eq f, ?_⟩
  · rintro f b s m q o rfl rfl ho hdue
    refine ⟨_, exec_origin ho hdue b, ?_⟩
    obtain ⟨hmtu, hnow, hnotch, hothers⟩ :=
      (s.setMtu f ((s.mtu.get f).originReached o)).takeOrigin_stands f ⟨o.time, o.polarity, o.estimate⟩ b
    refine ⟨hmtu, hnow, hnotch, hothers, fun h => ?_, fun h hp => ?_, fun h => ?_⟩ <;> rw [hmtu]
    · exact State.takeOrigin_ignored (s := s.setMtu f ((s.mtu.get f).originReached o)) (f := f)
        (o := ⟨o.time, o.polarity, o.estimate⟩) h b
    · obtain ⟨h1, h2, h3, h4, h5⟩ := State.takeOrigin_starts (s := s.setMtu f ((s.mtu.get f).originReached o))
        (f := f) (o := ⟨o.time, o.polarity, o.estimate⟩) h hp b
      refine ⟨h1, h2, h3, h4, h5.trans ?_⟩
      rw [State.setMtu_mtu, PerFeed.get_set_self]
      rfl
    · exact State.takeOrigin_advances (s := s.setMtu f ((s.mtu.get f).originReached o)) (f := f) h _ b
  · rintro f s m q z rest rfl rfl hz hdue
    rw [exec_zoneEvent hz hdue]
    refine ⟨fun h => by rw [if_neg h]; rfl, fun h => ?_⟩
    rw [if_pos h, State.offerZone_eq (s := s.setMtu f { s.mtu.get f with zonesDue := rest }) (q := s.csq.get f)
      (n := (s.mtu.get f).boundaries.length + 1) rfl (by rw [State.setMtu_mtu, PerFeed.get_set_self])]
    rfl
  · rintro f b s u q q1 h n r zone rfl rfl rfl rfl rfl
    refine ⟨fun hh => s.playHalf_inside f h r b hh, fun hh q2 q3 w hq2 hcases => ?_⟩
    subst hh hq2
    have counted : (s.atBoundary f r).countPending f = { w with csq := s.csq.set f q3 } := by
      have at_self : (s.atBoundary f r).csq.get f = _ := PerFeed.get_set_self ..
      obtain ⟨hp, rfl, rfl⟩ | ⟨c, hp, hc, rfl, rfl⟩ | ⟨c, hp, hc, rfl, rfl⟩ := hcases
      · rw [State.countPending_of_edit (by rw [at_self]; exact hp)]
        rfl
      · rw [State.countPending_of_counting (c := c) (by rw [at_self]; exact hp), if_neg (by omega), at_self]
        simp only [State.setCsq, State.atBoundary, PerFeed.set_set]
      · rw [State.countPending_of_counting (c := c) (by rw [at_self]; exact hp), if_pos hc]
        rw [State.exchangeRoles_eq (s := s) (by rw [State.atBoundary, State.offersTiming_clc_only])
          (by rw [State.atBoundary, State.offersTiming_clc_only]), at_self, State.atBoundary,
          State.offersTiming_clc_only]
        simp only [PerFeed.set_set]
        rfl
    have hmtu : w.mtu = s.mtu := by
      obtain ⟨-, -, rfl⟩ | ⟨-, -, -, -, rfl⟩ | ⟨-, -, -, -, rfl⟩ := hcases <;> rw [State.offersTiming_clc_only]
    have hfields : q3.beaconCount = (s.csq.get f).beaconCount + 1 ∧ q3.halfCycle = ⟨r.t0, r.polarity, r.estimate⟩ ∧
        q3.beaconLen = (s.csq.get f).beaconLen ∧ q3.halfIndex = 0 := by
      obtain ⟨-, rfl, -⟩ | ⟨-, -, -, rfl, -⟩ | ⟨-, -, -, rfl, -⟩ := hcases <;> exact ⟨rfl, rfl, rfl, rfl⟩
    obtain ⟨hcount, hcycle, hlen, hhalf⟩ := hfields
    rw [State.playHalf_boundary, counted, State.boundary_notices (q := q3)
      (n := (s.mtu.get f).boundaries.length + 1) (PerFeed.get_set_self ..) (by rw [← hmtu]), hcount, hcycle, hlen, hhalf]
    rfl
  · rintro f s u q starts rfl hstarts rfl
    have hbank := (Bank.starts_eq (s.csq.get f).currentBank (s.csq.get f).halfIndex (s.csq.get f).halfCycle.t0
      (s.csq.get f).halfCycle.estimate).trans hstarts.symm
    have hmem : ∀ a ∈ starts, ((s.csq.get f).currentBank.slot a.slot).phase.val = 0 →
        a.time = (s.csq.get f).halfCycle.t0 := fun a ha hp => by
      rw [hstarts, ← Bank.starts_eq] at ha
      exact Bank.starts_time ha hp
    refine ⟨fun hno => ?_, fun a rest ha hp hr ht => ?_⟩
    · cases starts with
      | nil => exact State.armStarts_nil hbank
      | cons a rest => exact (State.armStarts_cons hbank).trans (if_neg (hno a rest rfl))
    · subst ha
      rw [State.armStarts_cons hbank, if_pos hp, exec_windowStart (a := a) (rest := rest)]
      · rfl
      · rw [PerFeed.get_set_self]
        exact hr
      · rw [PerFeed.get_set_self]
      · rw [hmem a (by simp) hp]
        exact ht

/-! ### A window start (R50, R51) -/

/-- The events of the MGP apart, nothing of it has changed. -/
def Mgp.SameBut (m n : Mgp) : Prop := n = { m with events := n.events }

theorem Mgp.SameBut.rfl' (m : Mgp) : m.SameBut m := rfl

theorem Mgp.SameBut.of_eq {m n : Mgp} (h : n = m) : m.SameBut n := h ▸ rfl

theorem State.waitForDriver_mgp (s : State) (f : Feed) (c : ClaimRecord) : s.mgp.SameBut (s.waitForDriver f c).mgp := by
  simp only [State.waitForDriver]
  split
  · simp [Mgp.SameBut, State.offerEvent]
  · exact .of_eq (by simp)

theorem State.claimArrives_mgp (s : State) (f : Feed) (c : ClaimRecord) : s.mgp.SameBut (s.claimArrives f c).mgp := by
  unfold State.claimArrives
  split
  · exact .of_eq (by simp)
  · split
    · exact .of_eq rfl
    · exact s.waitForDriver_mgp f c
  · split
    · split
      · exact .of_eq (by simp)
      · exact s.waitForDriver_mgp f c
    · exact s.waitForDriver_mgp f c

theorem State.replaceClaim_mgp (s : State) (f : Feed) (cls : DriverClass) (w : SlotNo) (start : Nat) :
    s.mgp.SameBut (s.replaceClaim f cls w start).mgp := by
  unfold State.replaceClaim
  split
  · exact s.claimArrives_mgp f _
  · split
    · exact .of_eq (by simp)
    · exact .of_eq rfl
    · exact State.claimArrives_mgp (s.setPda ((s.pda.leaveList f).setClaim f none)) f _

theorem State.handClaim_mgp (s : State) (f : Feed) (cls : ClaimClass) (i : SlotNo) :
    s.mgp.SameBut (s.handClaim f cls i).mgp := by
  simp only [State.handClaim]
  split
  · exact State.claimArrives_mgp (s.setCsq f _) f _
  · exact State.replaceClaim_mgp (s.setCsq f _) f _ _ _
  · exact .of_eq (by simp)
  · exact .rfl' _

theorem State.startWindow_eq {s : State} {f : Feed} (i : SlotNo) :
    s.startWindow f i =
      ((s.setCsq f { s.csq.get f with
          currentWindow := some i, armed := (s.csq.get f).armed.filter (·.slot ≠ i) }).offerTiming f
        (s.windowNotice f i ((s.csq.get f).currentBank.duration i (s.csq.get f).beaconLen (s.csq.get f).halfCycle.estimate)
          false)).handClaim f (s.claimClass f ((s.csq.get f).currentBank.slot i)) i := by
  have notice (d : Nat) := State.windowNotice_congr (s := s)
    (t := s.setCsq f { s.csq.get f with currentWindow := some i, armed := (s.csq.get f).armed.filter (·.slot ≠ i) })
    (f := f) rfl rfl (by rw [State.setCsq_csq, PerFeed.get_set_self]; rfl)
    (by rw [State.setCsq_csq, PerFeed.get_set_self]) i d false
  simp only [State.startWindow, State.offerWindow_eq, notice]
  rfl

theorem State.startWindow_mgp (s : State) (f : Feed) (i : SlotNo) : s.mgp.SameBut (s.startWindow f i).mgp := by
  rw [State.startWindow_eq]
  have told : ((s.setCsq f { s.csq.get f with
      currentWindow := some i, armed := (s.csq.get f).armed.filter (·.slot ≠ i) }).offerTiming f
    (s.windowNotice f i ((s.csq.get f).currentBank.duration i (s.csq.get f).beaconLen (s.csq.get f).halfCycle.estimate)
      false)).mgp = s.mgp := by simp
  rw [← told]
  exact State.handClaim_mgp _ f _ i

/-! ### Durations and what a notice carries (R26, R54) -/

theorem Bank.duration_of_next {b : Bank} {i j : SlotNo} (h : i.val + 1 = j.val) (hj : j.val < b.count.val) (len p : Nat) :
    b.duration i len p = min 16777215
      (if (b.slot i).half.val = (b.slot j).half.val then
        (b.slot j).phase.val * p / 256 - (b.slot i).phase.val * p / 256
      else (p - (b.slot i).phase.val * p / 256) + ((b.slot j).half.val - (b.slot i).half.val - 1) * p +
        (b.slot j).phase.val * p / 256) := by
  have hslot : (⟨i.val + 1, by omega⟩ : SlotNo) = j := Fin.ext h
  simp only [Bank.duration, dif_pos (show i.val + 1 < b.count.val by omega), hslot]
  rfl

theorem Bank.duration_of_last {b : Bank} {i : SlotNo} (h : b.count.val ≤ i.val + 1) (len p : Nat) :
    b.duration i len p = min 16777215
      ((p - (b.slot i).phase.val * p / 256) + (len - (b.slot i).half.val - 1) * p) := by
  simp only [Bank.duration, dif_neg (show ¬i.val + 1 < b.count.val by omega)]
  rfl

theorem State.streamEnds_of_other {s : State} {k : WindowKind} (h : ∀ n, k ≠ .reserved n) : s.streamEnds k = none := by
  cases k with
  | reserved n => exact absurd rfl (h n)
  | beacon | probe n | shared | quiet => rfl

/-- Settles O24. -/
theorem windowStartPlaysTheWindow : Obligations.WindowStartPlaysTheWindow := by
  refine ⟨?_, ?_, ?_, ?_⟩
  · rintro f s q a rest w cls rfl hr ha hdue rfl rfl
    rw [exec_windowStart hr ha hdue]
    refine ⟨⟨_, rfl, State.startWindow_csq s f a.slot, ?_, fun hcls hheld => ?_⟩, ?_⟩
    · exact State.eq_of_fields (by simp) (by simp) rfl rfl (by simp) (by simp) (by simp) (by simp) (by simp) (by simp) rfl
        (s.startWindow_mgp f a.slot) (by simp) (by simp)
    · rw [State.startWindow_pda, hcls, hheld]
      rfl
    · rw [State.startWindow_eq]
      rfl
  · rintro f s u q c old cls i rfl rfl
    refine ⟨fun hc hheld => ?_, fun hc hheld => ?_, fun hc hheld => ?_, fun hc hheld => ?_⟩ <;> subst hc <;>
      simp only [State.handClaim, hheld] <;> rfl
  · rintro b i j len p a rfl
    exact ⟨fun h hj => Bank.duration_of_next h hj len p, fun h => Bank.duration_of_last h len p⟩
  · rintro s w i skipped x rfl
    refine ⟨rfl, rfl, rfl, rfl, rfl, fun n e hk he => ?_, fun hk => ?_, fun n hk => ?_, fun hk => ?_⟩
    · have hends : s.streamEnds w.kind = some e := by rw [hk]; exact he
      simp only [State.windowInfo, hends, Option.bind_some]
      exact ⟨rfl, rfl⟩
    · simp only [State.windowInfo, State.streamEnds_of_other hk]
      exact ⟨rfl, rfl⟩
    · simp only [State.windowInfo, hk]
      rfl
    · cases hw : w.kind with
      | probe n => exact absurd hw (hk n)
      | beacon | reserved n | shared | quiet => simp only [State.windowInfo, hw]

end Sys2Proof.Machine
end

section
/-! Chapter 4, the panel driver: grants, switches, preemption, waiting, replacement and release (O25). -/
namespace Sys2Proof.Machine

/-! ### The order of the classes (R68, R73) -/

theorem classCode_le_iff (a b : DriverClass) : classCode (some a) ≤ classCode (some b) ↔ classRank a ≤ classRank b := by
  cases a <;> cases b <;> decide

theorem preempts_iff (a b : DriverClass) : preempts a b = true ↔ classCode (some b) < classCode (some a) := by
  cases a <;> cases b <;> decide

theorem preempts_iff_named (a b : DriverClass) :
    preempts a b = true ↔ a = .beacon ∧ b ≠ .beacon ∨ a = .hard ∧ b = .soft := by cases a <;> cases b <;> decide

theorem not_preempts_iff_named (a b : DriverClass) :
    ¬preempts a b = true ↔ a = .soft ∨ a = b ∨ b = .beacon := by cases a <;> cases b <;> decide

/-! ### Offers commute with changes of the PDA -/

theorem State.offerTiming_setPda (s : State) (p : Pda) (f : Feed) (n : TimingNotice) :
    (s.setPda p).offerTiming f n = (s.offerTiming f n).setPda p := by
  rw [State.offerTiming_eq, State.offerTiming_eq]
  rfl

/-! ### Preemption and the judging of the head (R68) -/

theorem State.preempt_eq {s : State} {h : Holder} {old : ClaimRecord} (hold : s.pda.claims.get h.feed = some old)
    (f : Feed) (c : ClaimRecord) :
    s.preempt h f c =
      (s.offerTiming h.feed (.driver (.lost (some f)) old.window old.cls)).setPda (s.pda.preempted h f c s.now) := by
  simp only [State.preempt, hold, State.offerDriver, State.offerTiming_setPda, State.setPda_pda, Pda.preempted]
  rfl

theorem State.judgeHead_of_empty {s : State} (hw : s.pda.waiting = []) : s.judgeHead = s := by
  simp only [State.judgeHead, hw]

theorem State.judgeHead_of_lower {s : State} {h : Holder} {g : Feed} {rest : List Feed} {x : ClaimRecord}
    (hw : s.pda.waiting = g :: rest) (hh : s.pda.holder = some h) (hx : s.pda.claims.get g = some x)
    (hp : classCode (some x.cls) ≤ classCode (some h.cls)) : s.judgeHead = s := by
  have hno : ¬preempts x.cls h.cls = true := by rw [preempts_iff]; omega
  simp only [State.judgeHead, hw, hh, hx, if_neg hno]

/-- The head of the list preempts the holder, which is told LOST (R68). -/
theorem State.judgeHead_of_higher {s : State} {h : Holder} {g : Feed} {rest : List Feed} {x old : ClaimRecord}
    (hw : s.pda.waiting = g :: rest) (hh : s.pda.holder = some h) (hx : s.pda.claims.get g = some x)
    (hold : s.pda.claims.get h.feed = some old) (hp : classCode (some h.cls) < classCode (some x.cls)) :
    s.judgeHead =
      { s.offerTiming h.feed (.driver (.lost (some g)) old.window old.cls) with
        pda :=
          { s.pda with
            driver := .switching
            connected := some g
            switchAt := some (s.now + 2500)
            holder := none
            claims := (s.pda.claims.set h.feed none).set g (some { x with status := .target })
            waiting := s.pda.waiting.filter (· ≠ g) } } := by
  have hyes : preempts x.cls h.cls = true := by rwa [preempts_iff]
  have hleft : (s.setPda (s.pda.leaveList g)).pda.claims.get h.feed = some old := hold
  simp only [State.judgeHead, hw, hh, hx, if_pos hyes]
  rw [State.preempt_eq hleft, State.offerTiming_setPda, ← hw]
  rfl

/-- The holder's claim once granted or replaced, and the head of the list judged against it (R68 to R70). -/
theorem State.judgeHead_granted {s u : State} {f : Feed} {cls : DriverClass} {c : ClaimRecord}
    (hholder : u.pda.holder = some ⟨f, cls⟩) (hcls : c.cls = cls)
    (hclaims : u.pda.claims = s.pda.claims.set f (some c)) (hnow : u.now = s.now)
    (hwait : u.pda.waiting = s.pda.waiting) :
    (s.pda.waiting = [] → u.judgeHead = u) ∧
      ∀ g rest x, s.pda.waiting = g :: rest → g ≠ f → s.pda.claims.get g = some x →
        (classCode (some x.cls) ≤ classCode (some cls) → u.judgeHead = u) ∧
        (classCode (some cls) < classCode (some x.cls) →
          u.judgeHead =
            { u.offerTiming f (.driver (.lost (some g)) c.window cls) with
              pda :=
                { u.pda with
                  driver := .switching
                  connected := some g
                  switchAt := some (s.now + 2500)
                  holder := none
                  claims := (s.pda.claims.set f none).set g (some { x with status := .target })
                  waiting := s.pda.waiting.filter (· ≠ g) } }) := by
  subst hcls
  refine ⟨fun hw => State.judgeHead_of_empty (hwait.trans hw), fun g rest x hw hg hx => ?_⟩
  have hx' : u.pda.claims.get g = some x := by rw [hclaims, PerFeed.get_set_of_ne _ hg, hx]
  refine ⟨State.judgeHead_of_lower (hwait.trans hw) hholder hx', fun hp => ?_⟩
  have hold : u.pda.claims.get f = some c := by rw [hclaims, PerFeed.get_set_self]
  rw [State.judgeHead_of_higher (hwait.trans hw) hholder hx' hold hp, hnow, hclaims, hwait]
  simp only [PerFeed.set_set]

/-! ### The list served at FREE (R66, R71) -/

theorem State.serveList_of_empty {s : State} (hw : s.pda.waiting = []) : s.serveList = s := by
  simp only [State.serveList, hw]

/-- The head of the list is served by a switch where the relays stand elsewhere. -/
theorem State.serveList_of_away {s : State} {g : Feed} {rest : List Feed} {x : ClaimRecord}
    (hw : s.pda.waiting = g :: rest) (hx : s.pda.claims.get g = some x) (hc : s.pda.connected ≠ some g) :
    s.serveList =
      { s with
        pda :=
          { s.pda with
            driver := .switching
            connected := some g
            switchAt := some (s.now + 2500)
            holder := none
            claims := s.pda.claims.set g (some { x with status := .target })
            waiting := s.pda.waiting.filter (· ≠ g) } } := by
  have haway : ¬(s.setPda (s.pda.leaveList g)).pda.connected = some g := hc
  simp only [State.serveList, hw, hx, State.serveAtFree, if_neg haway]
  rw [← hw]
  rfl

/-! ### The end of a switch (R69) -/

theorem exec_switchCompletion_early {s : State}
    (h : s.pda.driver ≠ .switching ∨ ∀ d, s.pda.switchAt = some d → s.now < d) : exec .switchCompletion s = .next s := by
  have hno : ¬s.switchDue = true := by
    simp only [State.switchDue, Bool.and_eq_true, decide_eq_true_eq, Option.any_eq_true, not_and, not_exists]
    intro hd d hat hle
    obtain h | h := h
    · exact h hd
    · have := h d hat
      omega
  show execSwitchCompletion s = _
  rw [execSwitchCompletion, if_neg hno]

theorem exec_switchCompletion_due {s : State} {d : Nat} (hd : s.pda.driver = .switching) (hat : s.pda.switchAt = some d)
    (hdue : d ≤ s.now) : exec .switchCompletion s = .next s.endSwitch := by
  have hyes : s.switchDue = true := by simp [State.switchDue, hd, hat, hdue]
  show execSwitchCompletion s = _
  rw [execSwitchCompletion, if_pos hyes]

theorem State.endSwitch_of_claim {s : State} {f : Feed} {c : ClaimRecord} (hc : s.pda.connected = some f)
    (hf : s.pda.claims.get f = some c) : s.endSwitch = (s.grantDriver f c).judgeHead := by
  simp [State.endSwitch, hc, hf]

theorem State.endSwitch_of_none {s : State} {f : Feed} (hc : s.pda.connected = some f)
    (hf : s.pda.claims.get f = none) : s.endSwitch = (s.setPda s.pda.freeDriver).serveList := by
  simp [State.endSwitch, hc, hf]

/-! ### Arrivals (R66 to R68, R72, R73) -/

theorem State.claimArrives_of_switching {s : State} {f : Feed} (h : s.pda.driver = .switching) (c : ClaimRecord) :
    s.claimArrives f c =
      if s.pda.connected = some f then s.setPda (s.pda.setClaim f (some { c with status := .target }))
      else s.waitForDriver f c := by
  simp only [State.claimArrives, h]

theorem State.claimArrives_of_enabled {s : State} {f : Feed} {h : Holder} (hd : s.pda.driver = .enabled)
    (hh : s.pda.holder = some h) (c : ClaimRecord) :
    s.claimArrives f c = if preempts c.cls h.cls then s.preempt h f c else s.waitForDriver f c := by
  simp only [State.claimArrives, hd, hh]

theorem State.claimArrives_of_free {s : State} {f : Feed} (h : s.pda.driver = .free) (c : ClaimRecord) :
    s.claimArrives f c =
      if s.pda.connected = some f then s.grantDriver f c else s.setPda (s.pda.switchTo f c s.now) := by
  simp only [State.claimArrives, h, State.serveAtFree]

/-- A claim joins the list behind every claim of an equal or higher class (R73). -/
theorem Pda.joinList_split (p : Pda) (f : Feed) (cls : DriverClass) :
    ∃ pre post, p.waiting = pre ++ post ∧ p.joinList f cls = pre ++ f :: post ∧
      (∀ g ∈ pre, ∀ x, p.claims.get g = some x → classCode (some cls) ≤ classCode (some x.cls)) ∧
      ∀ g x, post.head? = some g → p.claims.get g = some x → classCode (some x.cls) < classCode (some cls) := by
  have rank {g : Feed} {x : ClaimRecord} (hx : p.claims.get g = some x) : p.rankOf g = classRank x.cls := by
    simp only [Pda.rankOf, hx]
  refine ⟨_, _, List.takeWhile_append_dropWhile.symm, rfl, fun g hg x hx => ?_, fun g x hg hx => ?_⟩
  · have hle := List.mem_takeWhile_imp hg
    rw [classCode_le_iff, ← rank hx]
    simpa using hle
  · have hnot := List.head?_dropWhile_not (fun g => decide (classRank cls ≤ p.rankOf g)) p.waiting
    rw [hg] at hnot
    rw [← Nat.not_le, classCode_le_iff, ← rank hx]
    simpa using hnot

theorem State.waitForDriver_eq (s : State) (f : Feed) (c : ClaimRecord) :
    s.waitForDriver f c =
      { (s.setPda { s.pda with
            waiting := s.pda.joinList f c.cls
            claims := s.pda.claims.set f (some { c with status := .waiting }) }).offerTiming f
          (.driver (.waiting s.pda.connected) c.window c.cls) with
        mgp :=
          { s.mgp with
            events :=
              if c.cls = .beacon then offerEventTo s.mgp.events (.driverConflict f c.window) else s.mgp.events } } := by
  simp only [State.waitForDriver, State.offerDriver]
  split
  · rw [State.offerTiming_eq]
    rfl
  · rw [State.offerTiming_eq]
    rfl

/-! ### Replacement and release (R70 to R72) -/

theorem State.replaceClaim_of_claim {s : State} {f : Feed} {old : ClaimRecord} (h : s.pda.claims.get f = some old)
    (cls : DriverClass) (w : SlotNo) (start : Nat) :
    s.replaceClaim f cls w start =
      match old.status with
      | .holding =>
          ((s.setPda { s.pda with
              holder := some ⟨f, cls⟩, claims := s.pda.claims.set f (some ⟨cls, w, start, .holding⟩) }).offerTiming f
            (.driver (.granted false) w cls)).judgeHead
      | .target => s.setPda (s.pda.setClaim f (some ⟨cls, w, start, .target⟩))
      | .waiting => (s.setPda ((s.pda.leaveList f).setClaim f none)).claimArrives f ⟨cls, w, start, .waiting⟩ := by
  cases hs : old.status <;> simp only [State.replaceClaim, h, hs] <;> rfl

theorem State.releaseDriver_of_claim {s : State} {f : Feed} {old : ClaimRecord} (h : s.pda.claims.get f = some old) :
    s.releaseDriver f =
      match old.status with
      | .holding => (s.setPda (s.pda.freeDriver.setClaim f none)).serveList
      | .waiting => s.setPda ((s.pda.leaveList f).setClaim f none)
      | .target => s.setPda (s.pda.setClaim f none) := by
  cases hs : old.status <;> simp only [State.releaseDriver, h, hs]

/-- Settles O25, part by part: the completion, an arrival, a replacement, a release. -/
theorem driverIsSwitchedGrantedAndWaitedFor : Obligations.DriverIsSwitchedGrantedAndWaitedFor := by
  refine ⟨fun s h => exec_switchCompletion_early h, ?_, ?_, ?_, ?_⟩
  · intro s f d hd hat hc hdue
    rw [exec_switchCompletion_due hd hat hdue]
    refine ⟨?_, fun hf hw => ?_, fun g c rest hf hw hg hrest hx => ?_⟩
    · rintro c u hf rfl
      rw [State.endSwitch_of_claim hc hf]
      have judged := State.judgeHead_granted (s := s) (u := s.grantDriver f c) (f := f) (cls := c.cls)
        (c := { c with status := .holding }) (by simp [Pda.enable]) rfl (by simp [Pda.enable]) (by simp)
        (by simp [Pda.enable])
      obtain ⟨hempty, hhead⟩ := judged
      refine ⟨fun hw => congrArg _ (hempty hw), fun g rest x hw hg hx => ?_⟩
      obtain ⟨hlow, hhigh⟩ := hhead g rest x hw hg hx
      exact ⟨fun h => congrArg _ (hlow h), fun h => congrArg _ (hhigh h)⟩
    · rw [State.endSwitch_of_none hc hf, State.serveList_of_empty (s := s.setPda s.pda.freeDriver) hw]
      rfl
    · have hne : (s.setPda s.pda.freeDriver).pda.connected ≠ some g := fun h => hg (Option.some.inj (h.symm.trans hc))
      have hleft : s.pda.waiting.filter (· ≠ g) = rest := by
        rw [hw, List.filter_cons_of_neg (by simp), List.filter_eq_self]
        intro y hy
        simpa using fun h : y = g => hrest (h ▸ hy)
      rw [State.endSwitch_of_none hc hf, State.serveList_of_away (s := s.setPda s.pda.freeDriver) hw hx hne]
      simp only [State.setPda_pda, Pda.freeDriver, hleft]
      rfl
  · intro s f c
    refine ⟨fun hd hc => ?_, fun hd hc => ?_, fun hd hc => ?_, ?_, ?_⟩
    · rw [State.claimArrives_of_free hd, if_neg hc]
      rfl
    · rw [State.claimArrives_of_free hd, if_pos hc]
      exact ⟨by simp [Pda.enable], by simp [Pda.enable], rfl⟩
    · rw [State.claimArrives_of_switching hd, if_pos hc]
      rfl
    · intro h old hd hh hf hold
      refine ⟨fun hp => ?_, fun hp => ?_⟩
      · rw [State.claimArrives_of_enabled hd hh, if_pos ((preempts_iff_named _ _).2 hp), State.preempt_eq hold]
        refine ⟨rfl, rfl, rfl, ?_, PerFeed.get_set_self .., rfl, rfl⟩
        exact (PerFeed.get_set_of_ne _ hf _).trans (PerFeed.get_set_self ..)
      · rw [State.claimArrives_of_enabled hd hh, if_neg ((not_preempts_iff_named _ _).2 hp)]
        have joined : f ∈ s.pda.joinList f c.cls := (s.pda.joinList_perm f c.cls).mem_iff.2 (by simp)
        rw [State.waitForDriver_eq, State.offerTiming_setPda]
        exact ⟨hd, hh, rfl, joined, rfl⟩
    · intro hwait
      obtain ⟨pre, post, hw, hjoin, hpre, hpost⟩ := s.pda.joinList_split f c.cls
      refine ⟨pre, post, hw, hpre, hpost, ?_⟩
      have waits : s.claimArrives f c = s.waitForDriver f c := by
        obtain ⟨hd, hc⟩ | ⟨h, hd, hh, hp⟩ := hwait
        · rw [State.claimArrives_of_switching hd, if_neg hc]
        · rw [State.claimArrives_of_enabled hd hh, if_neg ((not_preempts_iff_named _ _).2 hp)]
      rw [waits, State.waitForDriver_eq, hjoin]
      rfl
  · intro s f cls w start old
    refine ⟨fun hf => ?_, fun hf hs => ?_, fun hf hs => ?_, ?_⟩
    · simp only [State.replaceClaim, hf]
    · rw [State.replaceClaim_of_claim hf, hs]
      rfl
    · rw [State.replaceClaim_of_claim hf, hs]
      rfl
    · rintro u hf hs rfl
      rw [State.replaceClaim_of_claim hf, hs]
      exact State.judgeHead_granted (s := s) (c := ⟨cls, w, start, .holding⟩) (by simp) rfl (by simp) (by simp) (by simp)
  · intro s f old
    refine ⟨fun hf => ?_, fun hf hs => ?_, fun hf hs => ?_, fun hf hs hw => ?_, fun g rest x hf hs hw hg hc hx => ?_⟩
    · simp only [State.releaseDriver, hf]
    · rw [State.releaseDriver_of_claim hf, hs]
      rfl
    · rw [State.releaseDriver_of_claim hf, hs]
      rfl
    · rw [State.releaseDriver_of_claim hf, hs]
      exact State.serveList_of_empty hw
    · rw [State.releaseDriver_of_claim hf, hs]
      have hne : s.pda.connected ≠ some g := fun h => hg (Option.some.inj (h.symm.trans hc))
      have hleft : (s.pda.claims.set f none).get g = some x := by rw [PerFeed.get_set_of_ne _ hg, hx]
      exact State.serveList_of_away (s := s.setPda (s.pda.freeDriver.setClaim f none)) hw hleft hne

end Sys2Proof.Machine
end

section
/-! Chapter 11, the management port: the words it collects, the judging of a command, its completion, the reads and the
events (O26 to O29). -/
namespace Sys2Proof.Machine

/-! ### Writes (R186) -/

theorem Mgp.writeCommand_of_idle {m : Mgp} (h : m.command = .idle) (w : Word) :
    m.writeCommand w =
      { m with
        command := if w.toNat % 256 = 0 then .executing else .collecting
        code := BitVec.ofNat 8 (w.toNat / 256)
        announced := BitVec.ofNat 8 (w.toNat % 256)
        params := []
        results := []
        readPos := 0
        statusReady := false
        dataReady := false } := by
  simp only [Mgp.writeCommand, h]
  rfl

theorem Mgp.writeCommand_of_busy {m : Mgp} (h : m.command ≠ .idle) (w : Word) :
    m.writeCommand w = { m with writeIgnored := true } := by
  unfold Mgp.writeCommand
  split
  · rename_i hidle
    exact absurd hidle h
  · rfl

theorem Mgp.writeParam_of_collecting {m : Mgp} (h : m.command = .collecting) (w : Word) :
    m.writeParam w =
      { m with
        params := m.params ++ [w]
        command := if m.params.length + 1 < m.announced.toNat then .collecting else .executing } := by
  simp only [Mgp.writeParam, h]

theorem Mgp.writeParam_of_other {m : Mgp} (h : m.command ≠ .collecting) (w : Word) :
    m.writeParam w = { m with writeIgnored := true } := by
  unfold Mgp.writeParam
  split
  · rename_i hc
    exact absurd hc h
  · rfl

/-- A command that is not EXECUTING, or that stays in hand, finishes nothing. -/
theorem State.finishCommand_of_wait {s : State} {time : CompletionTime}
    (h : s.mgp.command ≠ .executing ∨ time = .later) : s.finishCommand time = s := by
  unfold State.finishCommand
  split
  · rename_i hc
    obtain h | h := h
    · exact absurd hc h
    · cases h
  · rfl

theorem State.finishCommand_of_executing {s : State} (h : s.mgp.command = .executing) :
    .next (s.finishCommand .atOnce) = exec (.unknownCommand s.mgp.code s.mgp.params) s := by
  simp only [State.finishCommand, h]
  rfl

theorem exec_commandWordWrite (w : Word) (time : CompletionTime) (s : State) :
    exec (.commandWordWrite w time) s =
      .next (if s.mgp.command = .idle then (s.setMgp (s.mgp.writeCommand w)).finishCommand time
        else s.setMgp (s.mgp.writeCommand w)) := rfl

theorem exec_paramWrite (w : Word) (time : CompletionTime) (s : State) :
    exec (.paramWrite w time) s =
      .next (if s.mgp.command = .collecting then (s.setMgp (s.mgp.writeParam w)).finishCommand time
        else s.setMgp (s.mgp.writeParam w)) := rfl

theorem exec_eventRead (s : State) : exec .eventRead s = .next (s.manage 0x50 [] eventRead) := rfl

theorem eventRead_of_nil {s : State} (h : s.mgp.events = []) : eventRead s = (s, Reply.done []) := by
  simp only [eventRead, h]

theorem eventRead_of_cons {s : State} {e : EventRecord} {rest : List EventRecord} (h : s.mgp.events = e :: rest) :
    eventRead s =
      (s.setMgp { s.mgp with events := rest },
        Reply.done ([word (eventClass e)] ++ eventFields e ++ [word rest.length])) := by
  simp only [eventRead, h]
  rfl

/-- Settles O26. -/
theorem portWordsAreCollectedOrIgnored : Obligations.PortWordsAreCollectedOrIgnored := by
  refine ⟨fun w time s => ?_, fun w time s => ?_⟩
  · refine ⟨fun h => ?_, fun h hstay => ?_, fun h hnone => ?_, fun h hw he => ?_⟩
    · rw [exec_commandWordWrite, if_neg h, Mgp.writeCommand_of_busy h]
      rfl
    · rw [exec_commandWordWrite, if_pos h, Mgp.writeCommand_of_idle h, State.finishCommand_of_wait]
      · rfl
      · exact hstay.imp_left fun hw => by simp [hw]
    · rw [exec_commandWordWrite, if_pos h, Mgp.writeCommand_of_idle h, if_pos hnone,
        State.finishCommand_of_executing (by rfl), hnone]
      rfl
    · subst hw
      rw [exec_commandWordWrite, if_pos h, Mgp.writeCommand_of_idle h, State.finishCommand_of_executing (by rfl)]
      show Host.Outcome.next (State.manage _ 0x50 [] eventRead) = _
      rw [State.manage_of_admits _ (by rfl), eventRead_of_nil (by exact he)]
      rfl
  · refine ⟨fun h => ?_, fun h hmore => ?_, fun h hlast => ⟨?_, ?_⟩⟩
    · rw [exec_paramWrite, if_neg h, Mgp.writeParam_of_other h]
      rfl
    · rw [exec_paramWrite, if_pos h, Mgp.writeParam_of_collecting h, if_pos hmore,
        State.finishCommand_of_wait (.inl (by simp)), ← h]
      rfl
    · rw [exec_paramWrite, if_pos h, Mgp.writeParam_of_collecting h, if_neg (by omega),
        State.finishCommand_of_wait (.inr rfl)]
      rfl
    · rw [exec_paramWrite, if_pos h, Mgp.writeParam_of_collecting h, if_neg (by omega),
        State.finishCommand_of_executing (by rfl)]
      rfl

/-! ### The judging of a command (R187) -/

section Unknown

variable {code : Byte}

theorem ne_of_unknown {n : Nat} (h : commandKnown code.toNat n = false) (c : Byte)
    (hc : commandKnown c.toNat n = true) : code ≠ c := by
  rintro rfl
  rw [h] at hc
  cases hc

theorem ownerOfOne_unknown (h : commandKnown code.toNat 1 = false) (w : Word) (s : State) :
    ownerOfOne code w s = s.refused .badParam := by
  have no := ne_of_unknown h
  rw [ownerOfOne, if_neg (no 0x03 (by decide)), if_neg (no 0x04 (by decide)), if_neg (no 0x05 (by decide)),
    if_neg (no 0x14 (by decide)), if_neg (no 0x21 (by decide)), if_neg (no 0x22 (by decide)),
    if_neg (no 0x24 (by decide)), if_neg (no 0x25 (by decide)), if_neg (no 0x31 (by decide)),
    if_neg (no 0x33 (by decide)), if_neg (no 0x40 (by decide)), if_neg (no 0x51 (by decide))]

theorem ownerOfTwo_unknown (h : commandKnown code.toNat 2 = false) (v w : Word) (s : State) :
    ownerOfTwo code v w s = s.refused .badParam := by
  have no := ne_of_unknown h
  rw [ownerOfTwo, if_neg (no 0x11 (by decide)), if_neg (no 0x13 (by decide)), if_neg (no 0x20 (by decide)),
    if_neg (no 0x23 (by decide))]

theorem ownerOfThree_unknown (h : commandKnown code.toNat 3 = false) (u v w : Word) (s : State) :
    ownerOfThree code u v w s = s.refused .badParam := by
  have no := ne_of_unknown h
  rw [ownerOfThree, if_neg (no 0x12 (by decide)), if_neg (no 0x30 (by decide)), if_neg (no 0x32 (by decide)),
    if_neg (no 0x34 (by decide))]

/-- A command of no row of the table is refused (R187). -/
theorem ownerOf_unknown {params : List Word} (h : commandKnown code.toNat params.length = false) (s : State) :
    ownerOf code params s = s.refused .badParam := by
  unfold ownerOf
  split
  · exact if_neg (ne_of_unknown h 0x50 (by decide))
  · exact ownerOfOne_unknown h _ s
  · exact ownerOfTwo_unknown h _ _ s
  · exact ownerOfThree_unknown h _ _ _ s
  · exact if_neg (ne_of_unknown (n := 6) h 0x10 (by decide))
  · exact if_neg (ne_of_unknown (n := 7) h 0x02 (by decide))
  · exact if_neg (ne_of_unknown (n := 10) h 0x01 (by decide))
  · rfl

end Unknown

/-- A refusal, with nothing changed but the port. -/
theorem State.manage_of_refused {s : State} {code : Byte} {params : List Word} {owner : State → Answer} {c : Completion}
    (h : s.mgp.admits code params = true) (ho : owner s = s.refused c) :
    s.manage code params owner = s.replies code params c [] :=
  State.manage_of_reply h ho

/-- Settles O27: each row of the table is the owner its code and count choose. -/
theorem codeAndWordsAreJudged : Obligations.CodeAndWordsAreJudged := by
  refine ⟨fun a b c d e f g h i j s => ⟨rfl, rfl, rfl, rfl, rfl, rfl, rfl, rfl, rfl, rfl, rfl, rfl, rfl, rfl, rfl, rfl, rfl,
    rfl, rfl, rfl, rfl, rfl, rfl, rfl⟩, fun code params s hunknown hadmits => ?_⟩
  show Host.Outcome.next (s.manage code params (ownerOf code params)) = _
  rw [State.manage_of_refused hadmits (ownerOf_unknown hunknown s)]

/-! ### Completion and the reads (R187, R188) -/

theorem completionCode_lt (c : Completion) : completionCode c < 256 := by cases c <;> decide

theorem Reply.statusWord_toNat {r : Reply} (h : r.words.length < 256) :
    r.statusWord.toNat = 256 * completionCode r.code + r.words.length := by
  have := completionCode_lt r.code
  rw [Reply.statusWord, word, BitVec.toNat_ofNat]
  omega

/-- The six flags of the flag word (R188). -/
def flagsWord (a b c d e g : Bool) : Word := word (bit a + 2 * bit b + 4 * bit c + 8 * bit d + 16 * bit e + 32 * bit g)

theorem flagsWord_bits : ∀ a b c d e g : Bool,
    (flagsWord a b c d e g).getLsbD 0 = a ∧ (flagsWord a b c d e g).getLsbD 1 = b ∧
      (flagsWord a b c d e g).getLsbD 2 = c ∧ (flagsWord a b c d e g).getLsbD 3 = d ∧
      (flagsWord a b c d e g).getLsbD 4 = e ∧ (flagsWord a b c d e g).getLsbD 5 = g := by decide

theorem bit_le (b : Bool) : bit b ≤ 1 := by cases b <;> decide

theorem flagsWord_high (a b c d e g : Bool) {i : Nat} (hi : 6 ≤ i) : (flagsWord a b c d e g).getLsbD i = false := by
  have hlt : (flagsWord a b c d e g).toNat < 2 ^ 6 := by
    have := bit_le a
    have := bit_le b
    have := bit_le c
    have := bit_le d
    have := bit_le e
    have := bit_le g
    rw [flagsWord, word, BitVec.toNat_ofNat]
    omega
  exact Nat.testBit_eq_false_of_lt (hlt.trans_le (Nat.pow_le_pow_right (by decide) hi))

theorem Mgp.flagWord_eq (m : Mgp) :
    m.flagWord = flagsWord m.cmdBusy m.paramWanted m.statusReady m.dataReady m.eventPending m.writeIgnored := rfl

/-- Settles O28. -/
theorem portShowsTheCompletedCommand : Obligations.PortShowsTheCompletedCommand := by
  refine ⟨fun code params c words s hlen => ⟨rfl, Reply.statusWord_toNat hlen, rfl, rfl, rfl, ?_, rfl, rfl⟩,
    fun s p v => ⟨fun h => ?_, fun h => ?_, fun w h => ?_, fun h => ?_, rfl, rfl, rfl⟩, fun m => ?_⟩
  · show decide (words ≠ []) = true ↔ _
    rw [decide_eq_true_iff]
  · show Host.Outcome.next (s.setMgp s.mgp.readStatus) = _
    simp only [Mgp.readStatus, h]
    rfl
  · show Host.Outcome.next (s.setMgp s.mgp.readStatus) = _
    unfold Mgp.readStatus
    split
    · rename_i hidle
      exact absurd hidle h
    · rfl
  · show Host.Outcome.next (s.setMgp s.mgp.readResult) = _
    simp only [Mgp.readResult, h]
    rfl
  · show Host.Outcome.next (s.setMgp s.mgp.readResult) = _
    simp only [Mgp.readResult, h]
    rfl
  · obtain ⟨h0, h1, h2, h3, h4, h5⟩ := flagsWord_bits m.cmdBusy m.paramWanted m.statusReady m.dataReady m.eventPending
      m.writeIgnored
    rw [Mgp.flagWord_eq]
    refine ⟨rfl, rfl, ?_, ?_, h2, h3, ?_, h5, fun i hi => flagsWord_high _ _ _ _ _ _ hi⟩
    · rw [h0, Mgp.cmdBusy, decide_eq_true_iff]
    · rw [h1, Mgp.paramWanted, decide_eq_true_iff]
    · rw [h4, Mgp.eventPending, decide_eq_true_iff]

/-! ### Events (R189, R191, R192) -/

theorem maskOf_getLsbD (w : Word) : ∀ c < 8, (maskOf w).getLsbD c = (w.getLsbD c && decide (c ≠ 0)) := by
  intro c hc
  rw [maskOf, BitVec.getLsbD_and, BitVec.getLsbD_setWidth]
  interval_cases c <;> simp

theorem Mgp.interrupting_iff (m : Mgp) :
    m.interrupting = true ↔
      m.statusReady = true ∨ ∃ e rest, m.events = e :: rest ∧ m.mask.getLsbD (eventClass e) = false := by
  unfold Mgp.interrupting
  cases m.events <;> simp

/-- Settles O29. -/
theorem eventsAreReadAndMasked : Obligations.EventsAreReadAndMasked := by
  refine ⟨fun s h => ⟨fun he => ?_, fun e rest he => ?_⟩, fun w s h => ?_, fun q e n => ?_, ?_⟩
  · rw [exec_eventRead, State.manage_of_reply h (eventRead_of_nil he)]
  · rw [exec_eventRead, State.manage_of_admits _ h, eventRead_of_cons he]
    rfl
  · refine ⟨_, maskOf w, rfl, ?_, maskOf_getLsbD w, Mgp.interrupting_iff⟩
    rw [State.manage_of_admits _ h]
    rfl
  · have no_marker (hlast : ∀ x, q.getLast? = some x → x.isMarker = false) (n : Nat) :
        q.getLast? ≠ some (.eventsLost n) := fun h => by cases hlast _ h
    refine ⟨fun hlast hlen => ?_, fun hlast hlen => ?_, ?_⟩
    · exact (offerEventTo_of_no_marker (no_marker hlast) e).trans (if_pos hlen)
    · exact (offerEventTo_of_no_marker (no_marker hlast) e).trans (if_neg (by exact Nat.not_lt.mpr hlen))
    · rw [offerEventTo, List.getLast?_concat, List.dropLast_concat]
      rfl
  · intro f a l o g m c i up n
    refine ⟨⟨rfl, rfl⟩, ⟨rfl, rfl⟩, ⟨rfl, rfl⟩, ⟨rfl, rfl⟩, ⟨rfl, rfl⟩, ⟨rfl, ?_⟩, rfl, rfl⟩
    cases up <;> rfl

end Sys2Proof.Machine
end

section
/-! The commands that edit and read the tables: windows (O33, O34), stations and streams (O40), and the settings, maps
and channel records of a link (O50, O51). -/
namespace Sys2Proof.Machine

/-! ### Operands and owners -/

theorem finOf_val {n x : Nat} {i : Fin n} (h : finOf n x = some i) : x = i.val := by
  unfold finOf at h
  split at h
  · cases h
    rfl
  · cases h

theorem finOf_lt {n x : Nat} {i : Fin n} (h : finOf n x = some i) : x < n := finOf_val h ▸ i.isLt

/-- What a command leaves behind once its owner has answered. -/
theorem State.manage_of_answer {s t : State} {code : Byte} {params : List Word} {owner : State → Answer}
    {c : Completion} {words : List Word} (h : s.mgp.admits code params = true) (ho : owner s = (t, ⟨c, words⟩)) :
    s.manage code params owner = t.replies code params c words := by
  rw [State.manage_of_admits owner h, ho]
  rfl

theorem List.map_finRange_eq_map_range {α : Type} {n : Nat} {f : Fin n → α} {g : Nat → α} (h : ∀ i, f i = g i.val) :
    (List.finRange n).map f = (List.range n).map g := by
  rw [← List.map_coe_finRange_eq_range, List.map_map]
  exact List.map_congr_left fun i _ => h i

/-! ### Windows (R28 to R30) -/

section Windows

variable {feed slot half phase kind target count role : Word} {s : State} {f : Feed} {i : SlotNo}

theorem windowWrite_of_bad (h : feedOf feed = none ∨ 31 < slot.toNat ∨ 7 < half.toNat ∨ 255 < phase.toNat ∨
    kindOf kind target = none) : windowWrite feed slot half phase kind target s = s.refused .badParam := by
  unfold windowWrite
  split
  · rename_i hf hi hh hp hk
    have := finOf_lt hi
    have := finOf_lt hh
    have := finOf_lt hp
    rw [hf, hk] at h
    simp only [reduceCtorEq, false_or, or_false] at h
    omega
  · rfl

theorem windowWrite_of_counting {q : Csq} {h : Fin 8} {p : Fin 256} {k : WindowKind} (hf : feedOf feed = some f)
    (hq : s.csq.get f = q) (hi : slot.toNat = i.val) (hh : half.toNat = h.val) (hp : phase.toNat = p.val)
    (hk : kindOf kind target = some k) (hstate : q.pendingState ≠ .edit) :
    windowWrite feed slot half phase kind target s = s.refused .wrongState := by
  subst hq
  simp only [windowWrite, hf, finOf_eq_some i hi, finOf_eq_some h hh, finOf_eq_some p hp, hk]
  split
  · rename_i hedit
    exact absurd hedit hstate
  · rfl

theorem windowWrite_of_edit {q : Csq} {h : Fin 8} {p : Fin 256} {k : WindowKind} (hf : feedOf feed = some f)
    (hq : s.csq.get f = q) (hi : slot.toNat = i.val) (hh : half.toNat = h.val) (hp : phase.toNat = p.val)
    (hk : kindOf kind target = some k) (hstate : q.pendingState = .edit) :
    windowWrite feed slot half phase kind target s =
      (s.setCsq f (q.setBank q.pendingNo
        { q.pendingBank with slots := q.pendingBank.slots.set i.val ⟨h, p, k⟩ i.isLt }), ⟨.ok, []⟩) := by
  subst hq
  simp only [windowWrite, hf, finOf_eq_some i hi, finOf_eq_some h hh, finOf_eq_some p hp, hk, hstate]
  rfl

theorem windowCount_of_bad (h : feedOf feed = none ∨ 32 < count.toNat) :
    windowCount feed count s = s.refused .badParam := by
  unfold windowCount
  split
  · rename_i hf hn
    have := finOf_lt hn
    rw [hf] at h
    simp only [reduceCtorEq, false_or] at h
    omega
  · rfl

theorem windowCount_of_counting {q : Csq} {n : Fin 33} (hf : feedOf feed = some f) (hq : s.csq.get f = q)
    (hn : count.toNat = n.val) (hstate : q.pendingState ≠ .edit) :
    windowCount feed count s = s.refused .wrongState := by
  subst hq
  simp only [windowCount, hf, finOf_eq_some n hn]
  split
  · rename_i hedit
    exact absurd hedit hstate
  · rfl

theorem windowCount_of_edit {q : Csq} {n : Fin 33} (hf : feedOf feed = some f) (hq : s.csq.get f = q)
    (hn : count.toNat = n.val) (hstate : q.pendingState = .edit) :
    windowCount feed count s =
      (s.setCsq f (q.setBank q.pendingNo { q.pendingBank with count := n }), ⟨.ok, []⟩) := by
  subst hq
  simp only [windowCount, hf, finOf_eq_some n hn, hstate]
  rfl

theorem windowRead_of_bad (h : feedOf feed = none ∨ 1 < role.toNat ∨ 31 < slot.toNat) :
    windowRead feed role slot s = s.refused .badParam := by
  unfold windowRead
  split
  · rename_i hf hr hi
    have := finOf_lt hr
    have := finOf_lt hi
    rw [hf] at h
    simp only [reduceCtorEq, false_or] at h
    omega
  · rfl

theorem windowRead_current (hf : feedOf feed = some f) (hi : slot.toNat = i.val) (hr : role.toNat = 0) :
    windowRead feed role slot s = (s, Reply.done (s.windowWords f (s.csq.get f).current 0 0 i)) := by
  simp only [windowRead, hf, finOf_eq_some i hi, finOf_eq_some (0 : Fin 2) hr]
  exact if_pos rfl

theorem windowRead_pending (hf : feedOf feed = some f) (hi : slot.toNat = i.val) (hr : role.toNat = 1) :
    windowRead feed role slot s =
      (s, Reply.done (s.windowWords f (s.csq.get f).pendingNo (s.csq.get f).pendingState.roleCode
        (s.csq.get f).pendingState.countdown i)) := by
  simp only [windowRead, hf, finOf_eq_some i hi, finOf_eq_some (1 : Fin 2) hr]
  exact if_neg (by decide)

end Windows

/-- Settles O33. -/
theorem windowEditsReachThePendingBank : Obligations.WindowEditsReachThePendingBank := by
  intro feed slot half phase kind target count s ps f q hps
  subst hps
  refine ⟨fun h => ⟨fun hbad => ?_, fun hf hq i hh p k hi hhalf hp hk => ⟨fun hstate => ?_, fun hstate => ?_⟩⟩,
    fun h => ⟨fun hbad => ?_, fun hf hq n hn => ⟨fun hstate => ?_, fun hstate => ?_⟩⟩⟩
  · exact congrArg Host.Outcome.next (State.manage_of_refused h (windowWrite_of_bad hbad))
  · exact congrArg Host.Outcome.next
      (State.manage_of_refused h (windowWrite_of_counting hf hq hi hhalf hp hk hstate))
  · exact congrArg Host.Outcome.next (State.manage_of_answer h (windowWrite_of_edit hf hq hi hhalf hp hk hstate))
  · exact congrArg Host.Outcome.next (State.manage_of_refused h (windowCount_of_bad hbad))
  · exact congrArg Host.Outcome.next (State.manage_of_refused h (windowCount_of_counting hf hq hn hstate))
  · exact congrArg Host.Outcome.next (State.manage_of_answer h (windowCount_of_edit hf hq hn hstate))

/-- Settles O34. -/
theorem windowReadReturnsNineWords : Obligations.WindowReadReturnsNineWords := by
  intro feed role slot s f q i h
  refine ⟨fun hbad => ?_, fun hf hq hi hr => ?_, fun hf hq hi hr => ?_⟩
  · exact congrArg Host.Outcome.next (State.manage_of_refused h (windowRead_of_bad hbad))
  · subst hq
    exact congrArg Host.Outcome.next (State.manage_of_reply h (windowRead_current hf hi hr))
  · subst hq
    exact congrArg Host.Outcome.next (State.manage_of_reply h (windowRead_pending hf hi hr))

/-! ### Stations and streams (R87, R94) -/

theorem Station.words_of_member {x : Station} {m : Membership} (h : x.member = some m) :
    x.words = [1, word (feedIndex m.feed), word m.address.toNat, word x.generation.toNat, word x.refs] := by
  simp only [Station.words, h]
  rfl

theorem Station.words_of_free {x : Station} (h : x.member = none) :
    x.words = [0, 255, 0, word x.generation.toNat, word x.refs] := by
  simp only [Station.words, h]
  rfl

theorem Stream.words_of_free {t : Stream} (h : t.state = .free) : t.words = [0, 255, 255, 255, word t.refs] := by
  simp only [Stream.words, h]
  rfl

theorem StreamState.code_of_ends {x : StreamState} {e : StreamEnds} (h : x.ends = some e) :
    word x.code = if x = .active e then 1 else 2 := by
  cases x with
  | free => cases h
  | active d => cases h; exact (if_pos rfl).symm
  | suspended d => exact (if_neg (by simp)).symm

theorem word_link_code (l : Option LinkNo) :
    word ((l.map Fin.val).getD 255) = match l with
      | some k => word k.val
      | none => 255 := by
  cases l <;> rfl

theorem Stream.words_of_ends {t : Stream} {e : StreamEnds} (h : t.state.ends = some e) :
    t.words = [if t.state = .active e then 1 else 2, word e.transmitter.val, word e.receiver.val,
      word ((e.link.map Fin.val).getD 255), word t.refs] := by
  rw [Stream.words, h, StreamState.code_of_ends h]
  rfl

theorem stationRead_of {w : Word} {s : State} {n : StationIx} (h : w.toNat = n.val) :
    stationRead w s = (s, Reply.done (s.station n).words) := by
  simp only [stationRead, finOf_eq_some n h]

theorem stationRead_of_bad {w : Word} {s : State} (h : 63 < w.toNat) : stationRead w s = s.refused .badParam := by
  simp only [stationRead, finOf_eq_none h]

theorem streamRead_of {w : Word} {s : State} {n : StreamNo} (h : w.toNat = n.val) :
    streamRead w s = (s, Reply.done (s.stream n).words) := by
  simp only [streamRead, finOf_eq_some n h]

theorem streamRead_of_bad {w : Word} {s : State} (h : 31 < w.toNat) : streamRead w s = s.refused .badParam := by
  simp only [streamRead, finOf_eq_none h]

/-- Settles O40. -/
theorem stationAndStreamReadsReturnTheirWords : Obligations.StationAndStreamReadsReturnTheirWords := by
  intro w s n i
  refine ⟨fun h => ⟨fun hbad => ?_, fun m hn hm => ?_, fun hn hfree => ?_⟩,
    fun h => ⟨fun hbad => ?_, fun hi hfree => ?_, fun e hi he => ?_⟩⟩
  · exact congrArg Host.Outcome.next (State.manage_of_refused h (stationRead_of_bad hbad))
  · rw [← Station.words_of_member hm]
    exact congrArg Host.Outcome.next (State.manage_of_reply h (stationRead_of hn))
  · rw [← Station.words_of_free hfree]
    exact congrArg Host.Outcome.next (State.manage_of_reply h (stationRead_of hn))
  · exact congrArg Host.Outcome.next (State.manage_of_refused h (streamRead_of_bad hbad))
  · rw [← Stream.words_of_free hfree]
    exact congrArg Host.Outcome.next (State.manage_of_reply h (streamRead_of hi))
  · have hwords := State.manage_of_reply h (streamRead_of (s := s) hi)
    rw [Stream.words_of_ends he, word_link_code] at hwords
    exact congrArg Host.Outcome.next hwords

/-! ### Links (R153, R154, R168, R114) -/

section Links

variable {link margin threshold role zone block : Word} {s : State} {l : LinkNo} {k : Link}

theorem linkSet_of_bad (h : 127 < link.toNat) : linkSet link margin threshold s = s.refused .badParam := by
  simp only [linkSet, finOf_eq_none h]

theorem linkSet_of_free (h : link.toNat = l.val) (hl : s.link l = none) :
    linkSet link margin threshold s = s.refused .noLink := by
  simp only [linkSet, finOf_eq_some l h, hl]

theorem linkSet_of_live {m t : Nat} (h : link.toNat = l.val) (hl : s.link l = some k) (hm : m = min margin.toNat 63)
    (ht : t = max 1 (min threshold.toNat 15)) :
    linkSet link margin threshold s =
      (s.setRecord l k { k.record with margin := m, threshold := t }, Reply.done [word m, word t]) := by
  subst hm ht
  simp only [linkSet, finOf_eq_some l h, hl]

theorem clamped_margin (n : Nat) : (if 63 < n then 63 else n) = min n 63 := by
  split <;> omega

theorem clamped_threshold (n : Nat) :
    (if n = 0 then 1 else if 15 < n then 15 else n) = max 1 (min n 15) := by
  split
  · omega
  · split <;> omega

theorem linkRead_of_bad (h : 127 < link.toNat) : linkRead link s = s.refused .badParam := by
  simp only [linkRead, finOf_eq_none h]

theorem linkRead_of_free (h : link.toNat = l.val) (hl : s.link l = none) : linkRead link s = s.refused .noLink := by
  simp only [linkRead, finOf_eq_some l h, hl]

theorem linkRead_of_live (h : link.toNat = l.val) (hl : s.link l = some k) :
    linkRead link s = (s, Reply.done (linkWords k.record (s.notch.get k.record.feed))) := by
  simp only [linkRead, finOf_eq_some l h, hl]

theorem mapRead_of_bad (h : 127 < link.toNat ∨ 1 < role.toNat ∨ 5 < zone.toNat) :
    mapRead link role zone s = s.refused .badParam := by
  unfold mapRead
  split
  · rename_i hl hr hz
    have := finOf_lt hl
    have := finOf_lt hr
    have := finOf_lt hz
    omega
  · rfl

section Zone

variable (h : link.toNat = l.val) (hr : role.toNat ≤ 1) (hz : zone.toNat ≤ 5)
include h hr hz

theorem mapRead_of_free (hl : s.link l = none) : mapRead link role zone s = s.refused .noLink := by
  have hrole : finOf 2 role.toNat = some ⟨role.toNat, by omega⟩ := finOf_eq_some _ rfl
  have hzone : finOf 6 zone.toNat = some ⟨zone.toNat, by omega⟩ := finOf_eq_some _ rfl
  simp only [mapRead, finOf_eq_some l h, hrole, hzone, hl]

theorem mapRead_of_live (hl : s.link l = some k) : mapRead link role zone s = readMap s k role.toNat zone.toNat := by
  have hrole : finOf 2 role.toNat = some ⟨role.toNat, by omega⟩ := finOf_eq_some _ rfl
  have hzone : finOf 6 zone.toNat = some ⟨zone.toNat, by omega⟩ := finOf_eq_some _ rfl
  simp only [mapRead, finOf_eq_some l h, hrole, hzone, hl]

end Zone

theorem readMap_of_outside {role zone : Nat} (h : s.zoneCount k.record.feed ≤ zone) :
    readMap s k role zone = s.refused .badParam := if_pos h

theorem readMap_of_no_next {role zone : Nat} (h : zone < s.zoneCount k.record.feed) (hr : role ≠ 0)
    (hnext : k.next = none) : readMap s k role zone = s.refused .noEntry := by
  rw [readMap, if_neg (by omega), if_neg hr, hnext]

theorem readMap_active {zone : Nat} {z : ZoneMap} (h : zone < s.zoneCount k.record.feed)
    (hz : k.active.zones[zone]? = some z) : readMap s k 0 zone = (s, Reply.done (mapWords k.active 0 0 z)) := by
  rw [readMap, if_neg (by omega), if_pos rfl, hz]

theorem readMap_next {zone : Nat} {z : ZoneMap} {n : NextSet} (h : zone < s.zoneCount k.record.feed)
    (hnext : k.next = some n) (hz : n.maps.zones[zone]? = some z) :
    readMap s k 1 zone = (s, Reply.done (mapWords n.maps n.countdown (causeCode k.record.pendingCause) z)) := by
  rw [readMap, if_neg (by omega), if_neg (by decide), hnext]
  simp only [hz]

/-- The 24 words of the load codes of a zone, four groups each (R168). -/
theorem codeWords_eq (z : ZoneMap) :
    (List.finRange 24).map (codeWord z) = (List.range 24).map fun j =>
      word ((z.codes.toList.getD (4 * j) 0).val + 16 * (z.codes.toList.getD (4 * j + 1) 0).val +
        256 * (z.codes.toList.getD (4 * j + 2) 0).val + 4096 * (z.codes.toList.getD (4 * j + 3) 0).val) := by
  refine List.map_finRange_eq_map_range fun j => ?_
  have code (i : Nat) (hi : i < 96) : z.codes[i] = z.codes.toList.getD i 0 := by
    rw [List.getD_eq_getElem _ _ (by simpa using hi), Vector.getElem_toList]
  rw [codeWord, code, code, code, code]

theorem channelRead_of_bad (h : 127 < link.toNat ∨ 5 < zone.toNat ∨ 11 < block.toNat) :
    channelRead link zone block s = s.refused .badParam := by
  unfold channelRead
  split
  · rename_i hl hz hb
    have := finOf_lt hl
    have := finOf_lt hz
    have := finOf_lt hb
    omega
  · rfl

section Channel

variable (h : link.toNat = l.val) (hz : zone.toNat ≤ 5) {b : Fin 12} (hb : block.toNat = b.val)
include h hz hb

theorem channelRead_of_free (hl : s.link l = none) : channelRead link zone block s = s.refused .noLink := by
  have hzone : finOf 6 zone.toNat = some ⟨zone.toNat, by omega⟩ := finOf_eq_some _ rfl
  simp only [channelRead, finOf_eq_some l h, hzone, finOf_eq_some b hb, hl]

theorem channelRead_of_outside (hl : s.link l = some k) (hout : s.zoneCount k.record.feed ≤ zone.toNat) :
    channelRead link zone block s = s.refused .badParam := by
  have hzone : finOf 6 zone.toNat = some ⟨zone.toNat, by omega⟩ := finOf_eq_some _ rfl
  simp only [channelRead, finOf_eq_some l h, hzone, finOf_eq_some b hb, hl]
  split
  · exact if_neg (by omega)
  · rfl

theorem channelRead_of_zone {z : ZoneRecord} (hl : s.link l = some k) (hin : zone.toNat < s.zoneCount k.record.feed)
    (hrec : k.channel[zone.toNat]? = some z) :
    channelRead link zone block s = (s, Reply.done (z.readBlock b)) := by
  have hzone : finOf 6 zone.toNat = some ⟨zone.toNat, by omega⟩ := finOf_eq_some _ rfl
  simp only [channelRead, finOf_eq_some l h, hzone, finOf_eq_some b hb, hl, hrec]
  exact if_pos hin

end Channel

theorem GroupRecord.readWord_eq (g : GroupRecord) :
    g.readWord = match g with
      | ⟨acc, true⟩ => word acc
      | ⟨_, false⟩ => 65535 := by
  obtain ⟨acc, seen⟩ := g
  cases seen <;> rfl

/-- The ten words of a block, its eight groups read off the record in order (R114). -/
theorem ZoneRecord.readBlock_eq (z : ZoneRecord) (b : Fin 12) :
    z.readBlock b = [if z.valid then 1 else 0, word z.sincePlan] ++
      (List.range 8).map fun i =>
        match z.groups.toList.getD (8 * b.val + i) ⟨0, false⟩ with
        | ⟨acc, true⟩ => word acc
        | ⟨_, false⟩ => 65535 := by
  have hbit : word (bit z.valid) = if z.valid then 1 else 0 := by cases z.valid <;> rfl
  rw [ZoneRecord.readBlock, hbit]
  refine congrArg (_ ++ ·) (List.map_finRange_eq_map_range fun i => ?_)
  have hi : 8 * b.val + i.val < 96 := by omega
  rw [List.getD_eq_getElem _ _ (by simpa using hi), Vector.getElem_toList]
  exact GroupRecord.readWord_eq _

end Links

/-- Settles O50. -/
theorem linkSetClampsAndWrites : Obligations.LinkSetClampsAndWrites := by
  intro link margin threshold s ps l hps h
  subst hps
  refine ⟨fun hbad => ?_, fun hl hfree => ?_, fun k m t hl hk hm ht => ?_⟩
  · exact congrArg Host.Outcome.next (State.manage_of_refused h (linkSet_of_bad hbad))
  · exact congrArg Host.Outcome.next (State.manage_of_refused h (linkSet_of_free hl hfree))
  · rw [clamped_margin] at hm
    rw [clamped_threshold] at ht
    exact congrArg Host.Outcome.next (State.manage_of_answer h (linkSet_of_live hl hk hm ht))

/-- Settles O51. -/
theorem linkReadsReturnTheirWords : Obligations.LinkReadsReturnTheirWords := by
  intro link role zone block s l ms cs hms hcs
  subst hms hcs
  refine ⟨fun h => ⟨fun hbad => ?_, fun hl hfree => ?_, fun k r m hl hk hr hm => ?_⟩,
    fun h => ⟨fun hbad => ?_, fun hl hr hz => ⟨fun hfree => ?_, fun k hk => ⟨fun hout => ?_, fun hin =>
      ⟨fun hrole hnext => ?_, fun m z countdown cause hzone hset => ?_⟩⟩⟩⟩,
    fun h => ⟨fun hbad => ?_, fun hl hz hb => ⟨fun hfree => ?_, fun k hk => ⟨fun hout => ?_, fun z hin hrec => ?_⟩⟩⟩⟩
  · exact congrArg Host.Outcome.next (State.manage_of_refused h (linkRead_of_bad hbad))
  · exact congrArg Host.Outcome.next (State.manage_of_refused h (linkRead_of_free hl hfree))
  · subst hr hm
    exact congrArg Host.Outcome.next (State.manage_of_reply h (linkRead_of_live hl hk))
  · exact congrArg Host.Outcome.next (State.manage_of_refused h (mapRead_of_bad hbad))
  · exact congrArg Host.Outcome.next (State.manage_of_refused h (mapRead_of_free hl hr hz hfree))
  · refine congrArg Host.Outcome.next (State.manage_of_refused h ?_)
    rw [mapRead_of_live hl hr hz hk]
    exact readMap_of_outside hout
  · refine congrArg Host.Outcome.next (State.manage_of_refused h ?_)
    rw [mapRead_of_live hl hr hz hk]
    exact readMap_of_no_next hin (by omega) hnext
  · refine congrArg Host.Outcome.next (State.manage_of_reply h ?_)
    rw [mapRead_of_live hl hr hz hk, ← codeWords_eq]
    obtain ⟨hrole, rfl, rfl, rfl⟩ | ⟨hrole, hnext, rfl⟩ := hset
    · rw [hrole]
      exact readMap_active hin hzone
    · rw [hrole]
      exact readMap_next hin hnext hzone
  · exact congrArg Host.Outcome.next (State.manage_of_refused h (channelRead_of_bad hbad))
  · exact congrArg Host.Outcome.next
      (State.manage_of_refused h (channelRead_of_free (b := ⟨block.toNat, by omega⟩) hl hz rfl hfree))
  · exact congrArg Host.Outcome.next
      (State.manage_of_refused h (channelRead_of_outside (b := ⟨block.toNat, by omega⟩) hl hz rfl hk hout))
  · have hread := channelRead_of_zone (s := s) (b := ⟨block.toNat, by omega⟩) hl hz rfl hk hin hrec
    rw [ZoneRecord.readBlock_eq] at hread
    exact congrArg Host.Outcome.next (State.manage_of_reply h hread)

end Sys2Proof.Machine
end

section
/-! Commands that move references and start or stop playback: streams (O39), SEQ_START and SEQ_STOP (O31), and the
activation and cancellation of a schedule (O36). -/
namespace Sys2Proof.Machine

/-! ### Streams (R91, R92) -/

/-- The first index that passes a test is the one a search from below finds. -/
theorem find?_finRange_eq_some {n : Nat} {p : Fin n → Bool} {i : Fin n} (hi : p i = true)
    (hlow : ∀ j : Fin n, j.val < i.val → p j = false) : (List.finRange n).find? p = some i := by
  rw [List.find?_eq_some_iff_getElem]
  refine ⟨hi, i.val, by simp, by simp, fun j hj => ?_⟩
  simp [hlow ⟨j, by omega⟩ hj]

theorem State.freeStream_eq_some {s : State} {n : StreamNo} (h : (s.stream n).state = .free)
    (hlow : ∀ m : StreamNo, m.val < n.val → (s.stream m).state ≠ .free) : s.freeStream = some n :=
  find?_finRange_eq_some (by simpa using h) fun m hm => by simpa using hlow m hm

theorem State.freeStream_eq_none {s : State} (h : ∀ n, (s.stream n).state ≠ .free) : s.freeStream = none := by
  rw [State.freeStream, List.find?_eq_none]
  simpa using h

theorem State.canStream_eq_false {s : State} {a b : StationIx}
    (h : (s.station a).member = none ∨ (s.station b).member = none ∨ a = b ∨
      (s.station a).member.map (·.feed) ≠ (s.station b).member.map (·.feed)) : s.canStream a b = false := by
  unfold State.canStream
  split
  · rename_i m n hm hn
    rw [hm, hn] at h
    simp only [reduceCtorEq, false_or, Option.map_some, ne_eq, Option.some.injEq] at h
    obtain rfl | hfeed := h
    · simp
    · simp [hfeed]
  · rfl

section Streams

variable {tx rx w : Word} {s : State} {a b : StationIx} {n : StreamNo} {e : StreamEnds}

theorem streamCreate_of_outside (h : 63 < tx.toNat ∨ 63 < rx.toNat) :
    streamCreate tx rx s = s.refused .badParam := by
  unfold streamCreate
  split
  · rename_i ht hr
    have := finOf_lt ht
    have := finOf_lt hr
    omega
  · rfl

theorem streamCreate_of_bad (ha : tx.toNat = a.val) (hb : rx.toNat = b.val) (h : s.canStream a b = false) :
    streamCreate tx rx s = s.refused .badParam := by
  simp only [streamCreate, finOf_eq_some a ha, finOf_eq_some b hb, h]
  rfl

theorem streamCreate_of_full (ha : tx.toNat = a.val) (hb : rx.toNat = b.val) (h : s.canStream a b = true)
    (hfull : s.freeStream = none) : streamCreate tx rx s = s.refused .full := by
  simp only [streamCreate, finOf_eq_some a ha, finOf_eq_some b hb, h, hfull, if_pos]

theorem streamCreate_of_room (ha : tx.toNat = a.val) (hb : rx.toNat = b.val) (h : s.canStream a b = true)
    (hroom : s.freeStream = some n) :
    streamCreate tx rx s = (s.createStream n ⟨a, b⟩, Reply.done [word n.val]) := by
  simp only [streamCreate, finOf_eq_some a ha, finOf_eq_some b hb, h, hroom, if_pos]

theorem streamDelete_of_outside (h : 31 < w.toNat) : streamDelete w s = s.refused .badParam := by
  simp only [streamDelete, finOf_eq_none h]

theorem streamDelete_of_free (h : w.toNat = n.val) (hn : (s.stream n).state = .free) :
    streamDelete w s = s.refused .noEntry := by
  simp only [streamDelete, finOf_eq_some n h, hn, StreamState.ends]

theorem streamDelete_of_used (h : w.toNat = n.val) (he : (s.stream n).state.ends = some e) (hr : 0 < (s.stream n).refs) :
    streamDelete w s = s.refused .inUse := by
  simp only [streamDelete, finOf_eq_some n h, he, if_pos hr]

theorem streamDelete_of_unused (h : w.toNat = n.val) (he : (s.stream n).state.ends = some e)
    (hr : (s.stream n).refs = 0) : streamDelete w s = (s.deleteStream n e, Reply.done []) := by
  simp only [streamDelete, finOf_eq_some n h, he, hr]
  rfl

end Streams

/-- Two distinct stations hold one reference each (R91). -/
theorem uses_of_distinct {a b i : StationIx} (h : a ≠ b) :
    ((if a = i then 1 else 0) + if b = i then 1 else 0) = if i = a ∨ i = b then 1 else 0 := by
  by_cases ha : i = a
  · subst ha
    simp [h.symm]
  · by_cases hb : i = b
    · subst hb
      simp [h]
    · simp [ha, hb, Ne.symm ha, Ne.symm hb]

/-- Settles O39. -/
theorem streamsAreCreatedAndDeleted : Obligations.StreamsAreCreatedAndDeleted := by
  refine ⟨fun tx rx s ps hps h => ?_, fun w s n h => ⟨fun hout => ?_, fun hn => ⟨fun hfree => ?_, fun e he hr => ?_,
    fun e he hr hne => ?_⟩⟩⟩
  · subst hps
    refine ⟨fun hout => ?_, fun a b ha hb => ⟨fun hbad => ?_, fun hcan hfull => ?_, fun n hcan hn hlow => ?_⟩⟩
    · exact congrArg Host.Outcome.next (State.manage_of_refused h (streamCreate_of_outside hout))
    · exact congrArg Host.Outcome.next
        (State.manage_of_refused h (streamCreate_of_bad ha hb (State.canStream_eq_false hbad)))
    · exact congrArg Host.Outcome.next
        (State.manage_of_refused h (streamCreate_of_full ha hb hcan (State.freeStream_eq_none hfull)))
    · have hcreate := streamCreate_of_room ha hb hcan (State.freeStream_eq_some hn hlow)
      refine ⟨_, congrArg Host.Outcome.next (State.manage_of_answer h hcreate), rfl, ?_, fun m hm => ?_, fun i => ?_⟩
      · exact (s.createStream_stream n ⟨a, b⟩ n).trans (if_pos rfl)
      · exact (s.createStream_stream n ⟨a, b⟩ m).trans (if_neg hm)
      · refine (s.createStream_station n ⟨a, b⟩ i).trans ?_
        rw [State.newStreamState_uses, uses_of_distinct (State.canStream_iff.1 hcan).1]
  · exact congrArg Host.Outcome.next (State.manage_of_refused h (streamDelete_of_outside hout))
  · exact congrArg Host.Outcome.next (State.manage_of_refused h (streamDelete_of_free hn hfree))
  · exact congrArg Host.Outcome.next (State.manage_of_refused h (streamDelete_of_used hn he hr))
  · refine ⟨_, congrArg Host.Outcome.next (State.manage_of_answer h (streamDelete_of_unused hn he hr)), rfl, ?_,
      fun m hm => ?_, fun i => ?_⟩
    · exact (s.deleteStream_stream n e n).trans (if_pos rfl)
    · exact (s.deleteStream_stream n e m).trans (if_neg hm)
    · refine (s.deleteStream_station n e i).trans ?_
      rw [Nat.sub_sub, uses_of_distinct hne]

/-! ### A claim withdrawn, and the rest of the state (R56, R59) -/

theorem State.offerGeneral_setCsq (s : State) (g : Feed) (q : Csq) (f : Feed) (n : GeneralNotice) :
    (s.setCsq g q).offerGeneral f n = (s.offerGeneral f n).setCsq g q := by
  rw [State.offerGeneral_eq, State.offerGeneral_eq]
  rfl

theorem State.offerTiming_setCsq (s : State) (g : Feed) (q : Csq) (f : Feed) (n : TimingNotice) :
    (s.setCsq g q).offerTiming f n = (s.offerTiming f n).setCsq g q := by
  rw [State.offerTiming_eq, State.offerTiming_eq]
  rfl

theorem State.grantDriver_setCsq (s : State) (g : Feed) (q : Csq) (f : Feed) (c : ClaimRecord) :
    (s.setCsq g q).grantDriver f c = (s.grantDriver f c).setCsq g q := by
  unfold State.grantDriver State.offerDriver
  exact State.offerTiming_setCsq (s.setPda (s.pda.enable f c)) g q f
    (.driver (.granted (c.start + Config.lateTicks < s.now)) c.window c.cls)

theorem State.serveList_setCsq (s : State) (g : Feed) (q : Csq) :
    (s.setCsq g q).serveList = s.serveList.setCsq g q := by
  have serve (t : State) (h : Feed) (c : ClaimRecord) :
      (t.setCsq g q).serveAtFree h c = (t.serveAtFree h c).setCsq g q := by
    by_cases hcon : t.pda.connected = some h
    · rw [State.serveAtFree, if_pos (by exact hcon), State.serveAtFree, if_pos hcon]
      exact State.grantDriver_setCsq t g q h c
    · rw [State.serveAtFree, if_neg (by exact hcon), State.serveAtFree, if_neg hcon]
      rfl
  unfold State.serveList
  cases hw : s.pda.waiting with
  | nil =>
    simp only [State.setCsq, hw]
  | cons h rest =>
    cases hc : s.pda.claims.get h with
    | none => simp only [State.setCsq, hw, hc]
    | some c =>
      simp only [State.setCsq, hw, hc]
      exact serve (s.setPda (s.pda.leaveList h)) h c

/-- A release at the driver does not touch the sequencers, and does not look at them. -/
theorem State.releaseDriver_setCsq (s : State) (g : Feed) (q : Csq) (f : Feed) :
    (s.setCsq g q).releaseDriver f = (s.releaseDriver f).setCsq g q := by
  cases hc : s.pda.claims.get f with
  | none =>
    simp only [State.releaseDriver, State.setCsq, hc]
  | some c =>
    rw [State.releaseDriver_of_claim hc, State.releaseDriver_of_claim (s := s.setCsq g q) hc]
    cases c.status with
    | holding => exact State.serveList_setCsq (s.setPda _) g q
    | waiting => rfl
    | target => rfl

/-- A state whose feed has withdrawn the claim its sequencer held. -/
def State.undriven (s : State) (f : Feed) : State :=
  if (s.csq.get f).heldClaim = none then s else s.releaseDriver f

theorem State.undriven_only (s : State) (f : Feed) :
    s.undriven f = { s with pda := (s.undriven f).pda, clc := (s.undriven f).clc } := by
  unfold State.undriven
  split
  · rfl
  · exact State.eq_of_fields (by simp) (by simp) (by simp) rfl (by simp) (by simp) (by simp) (by simp) (by simp)
      (by simp) rfl (by simp) (by simp) (by simp)

theorem State.undriven_csq (s : State) (f : Feed) : (s.undriven f).csq = s.csq := by rw [State.undriven_only]

theorem State.undriven_claim {s : State} {f : Feed} (h : (s.csq.get f).heldClaim.isSome) :
    (s.undriven f).pda.claims.get f = none := by
  rw [State.undriven, if_neg (Option.ne_none_iff_isSome.2 h), State.releaseDriver_pda]
  exact (s.pda.release_within f s.now).eq_none

theorem State.withdraw_undriven (s : State) (f : Feed) :
    s.withdraw f = (s.undriven f).setCsq f { s.csq.get f with heldClaim := none } := by
  unfold State.withdraw State.undriven
  cases hheld : (s.csq.get f).heldClaim with
  | none =>
    have hsame : ({ s.csq.get f with heldClaim := none } : Csq) = s.csq.get f := by rw [← hheld]
    simp [State.setCsq, hsame]
  | some c =>
    simp only [reduceCtorEq, if_false]
    exact State.releaseDriver_setCsq s f _ f

theorem State.undriven_setCsq {s : State} {f : Feed} {q : Csq} (h : q.heldClaim = (s.csq.get f).heldClaim) :
    (s.setCsq f q).undriven f = (s.undriven f).setCsq f q := by
  unfold State.undriven
  rw [State.releaseDriver_setCsq, show ((s.setCsq f q).csq.get f).heldClaim = (s.csq.get f).heldClaim by simp [h]]
  split <;> rfl

/-- A sequencer with nothing in progress (R56). -/
def Csq.idle (q : Csq) : Csq :=
  { q with currentWindow := none, armed := [], halfIndex := 0, heldClaim := none }

theorem State.endPlayback_undriven (s : State) (f : Feed) :
    s.endPlayback f = (s.undriven f).setCsq f (s.csq.get f).idle := by
  have hkept := State.undriven_setCsq (s := s) (f := f)
    (q := { s.csq.get f with currentWindow := none, armed := [], halfIndex := 0 }) rfl
  rw [State.endPlayback, State.withdraw_undriven, hkept]
  simp [State.setCsq, Csq.idle]

/-! ### SEQ_START and SEQ_STOP (R43, R59) -/

theorem State.enterSeq_eq (s : State) (f : Feed) (st : SeqState) :
    s.enterSeq f st =
      (s.offerGeneral f (.feedState f (s.mtu.get f).state st (s.mtu.get f).period)).setCsq f
        { s.csq.get f with state := st } := by
  rw [← State.offerGeneral_setCsq, State.enterSeq, State.offerFeedState]
  simp

theorem CheckResult.refusal_ne {c : CheckResult} (h : c ≠ .pass) :
    c = .noSchedule ∨ ∃ i, c = .badSchedule i := by
  cases c with
  | pass => exact absurd rfl h
  | noSchedule => exact .inl rfl
  | badSchedule i => exact .inr ⟨i, rfl⟩

section Playback

variable {w : Word} {s : State} {f : Feed}

theorem seqStart_of_bad (h : feedOf w = none) : seqStart w s = s.refused .badParam := by
  simp only [seqStart, h]

theorem seqStart_of_state (h : feedOf w = some f) (hs : (s.csq.get f).state ≠ .stopped) :
    seqStart w s = s.refused .wrongState := by
  simp only [seqStart, h, if_neg hs]

theorem seqStart_of_failed {c : CheckResult} (h : feedOf w = some f) (hs : (s.csq.get f).state = .stopped)
    (hc : s.checkBank f (s.csq.get f).currentBank = c) (hfail : c ≠ .pass) : seqStart w s = (s, c.refusal) := by
  obtain rfl | ⟨i, rfl⟩ := CheckResult.refusal_ne hfail <;> simp only [seqStart, h, if_pos hs, hc]

theorem seqStart_of_pass (h : feedOf w = some f) (hs : (s.csq.get f).state = .stopped)
    (hc : s.checkBank f (s.csq.get f).currentBank = .pass) :
    seqStart w s = (s.enterSeq f .waitingSync, Reply.done []) := by
  simp only [seqStart, h, if_pos hs, hc]

theorem seqStop_of_bad (h : feedOf w = none) : seqStop w s = s.refused .badParam := by
  simp only [seqStop, h]

theorem seqStop_of_stopped (h : feedOf w = some f) (hs : (s.csq.get f).state = .stopped) :
    seqStop w s = (s, Reply.done []) := by
  simp only [seqStop, h, if_pos hs]

theorem seqStop_of_playing (h : feedOf w = some f) (hs : (s.csq.get f).state ≠ .stopped) :
    seqStop w s = ((s.endPlayback f).enterSeq f .stopped, Reply.done []) := by
  simp only [seqStop, h, if_neg hs]

end Playback

/-- SEQ_STOP of a sequencer that is not STOPPED: the claim is withdrawn, the state told, and the sequencer left with
nothing in progress (R59). -/
theorem State.stopped_eq (s : State) (f : Feed) :
    (s.endPlayback f).enterSeq f .stopped =
      ((s.undriven f).offerGeneral f (.feedState f (s.mtu.get f).state .stopped (s.mtu.get f).period)).setCsq f
        { (s.csq.get f).idle with state := .stopped } := by
  have hmtu : (s.undriven f).mtu = s.mtu := by rw [State.undriven_only]
  rw [State.enterSeq_eq, State.endPlayback_undriven, State.offerGeneral_setCsq]
  simp only [State.setCsq, PerFeed.get_set_self, PerFeed.set_set, State.offerGeneral_frame, hmtu]

/-- Settles O31. -/
theorem playbackIsStartedAndStopped : Obligations.PlaybackIsStartedAndStopped := by
  refine ⟨fun w s f q h => ⟨fun hbad => ?_, fun hf hq => ?_⟩, fun w s f q h => ⟨fun hbad => ?_, fun hf hq => ?_⟩⟩
  · exact congrArg Host.Outcome.next (State.manage_of_refused h (seqStart_of_bad hbad))
  · subst hq
    refine ⟨fun hs => ?_, fun hs hc => ?_, fun i hs hc => ?_, fun hs hc => ?_⟩
    · exact congrArg Host.Outcome.next (State.manage_of_refused h (seqStart_of_state hf hs))
    · exact congrArg Host.Outcome.next (State.manage_of_reply h (seqStart_of_failed hf hs hc nofun))
    · exact congrArg Host.Outcome.next (State.manage_of_reply h (seqStart_of_failed hf hs hc nofun))
    · have hstart := seqStart_of_pass hf hs hc
      rw [State.enterSeq_eq, ← State.offerGeneral_setCsq] at hstart
      exact congrArg Host.Outcome.next (State.manage_of_answer h hstart)
  · exact congrArg Host.Outcome.next (State.manage_of_refused h (seqStop_of_bad hbad))
  · subst hq
    refine ⟨fun hs => ?_, fun hs => ?_⟩
    · exact congrArg Host.Outcome.next (State.manage_of_reply h (seqStop_of_stopped hf hs))
    · have hstop := seqStop_of_playing hf hs
      rw [State.stopped_eq] at hstop
      refine ⟨_, congrArg Host.Outcome.next (State.manage_of_answer h hstop), ?_, fun hheld => ?_, ?_⟩
      · rw [State.offerGeneral_eq, State.undriven_only]
        rfl
      · rw [State.offerGeneral_eq]
        exact State.undriven_claim hheld
      · intro u hu
        obtain rfl : u = s.undriven f := hu
        rw [State.offerGeneral_eq]
        exact ⟨rfl, rfl⟩

end Sys2Proof.Machine
end

section
/-! The counting and release of a bank as the change they are, and the commands that make one: SCHEDULE_ACTIVATE and
SCHEDULE_CANCEL (O36), FEED_CONFIGURE (O30). -/
namespace Sys2Proof.Machine

/-! ### Counts (R33) -/

theorem Stream.eq_of_refs {x y : Stream} {n : Nat} (state : x.state = y.state) (refs : x.refs = n) :
    x = { y with refs := n } := by
  cases x
  cases state
  cases refs
  rfl

theorem Station.eq_of_refs {x y : Station} {n : Nat} (member : x.member = y.member)
    (generation : x.generation = y.generation) (refs : x.refs = n) : x = { y with refs := n } := by
  cases x
  cases member
  cases generation
  cases refs
  rfl

theorem State.releaseBank_only (s : State) (b : Bank) :
    s.releaseBank b = { s with stations := (s.releaseBank b).stations, streams := (s.releaseBank b).streams } :=
  State.releaseBank_eq rfl rfl b

theorem State.countBank_only (s : State) (b : Bank) :
    s.countBank b = { s with stations := (s.countBank b).stations, streams := (s.countBank b).streams } :=
  State.eq_of_fields (by simp) (by simp) (by simp) (by simp) rfl rfl (by simp) (by simp) (by simp) (by simp)
    (by simp) (by simp) (by simp) (by simp)

/-- The change a bank's count makes to each stream and station. -/
theorem State.countBank_adds (s : State) (b : Bank) :
    (∀ n, (s.countBank b).stream n = { s.stream n with refs := (s.stream n).refs + b.uses (.reserved n) }) ∧
      ∀ n, (s.countBank b).station n = { s.station n with refs := (s.station n).refs + b.uses (.probe n) } := by
  have hquiet := State.Quiet.countBank s b
  exact ⟨fun n => Stream.eq_of_refs (hquiet.stream n) (s.countBank_stream b n),
    fun n => Station.eq_of_refs (hquiet.member n) (hquiet.generation n) (s.countBank_station b n)⟩

theorem State.releaseBank_subtracts (s : State) (b : Bank) :
    (∀ n, (s.releaseBank b).stream n = { s.stream n with refs := (s.stream n).refs - b.uses (.reserved n) }) ∧
      ∀ n, (s.releaseBank b).station n = { s.station n with refs := (s.station n).refs - b.uses (.probe n) } := by
  have hquiet := State.Quiet.releaseBank s b
  exact ⟨fun n => Stream.eq_of_refs (hquiet.stream n) (s.releaseBank_stream b n),
    fun n => Station.eq_of_refs (hquiet.member n) (hquiet.generation n) (s.releaseBank_station b n)⟩

theorem State.cancelPending_of_edit {s : State} {f : Feed} (h : (s.csq.get f).pendingState = .edit) :
    s.cancelPending f = s := by
  simp only [State.cancelPending, h]

theorem State.cancelPending_of_counting {s : State} {f : Feed} (h : (s.csq.get f).pendingState ≠ .edit) :
    s.cancelPending f =
      { s with
        csq := s.csq.set f { s.csq.get f with pendingState := .edit }
        stations := (s.releaseBank (s.csq.get f).pendingBank).stations
        streams := (s.releaseBank (s.csq.get f).pendingBank).streams } := by
  unfold State.cancelPending
  split
  · rename_i hedit
    exact absurd hedit h
  · rw [State.setCsq, State.releaseBank_only]

/-! ### SCHEDULE_ACTIVATE and SCHEDULE_CANCEL (R34 to R36, R38) -/

section Schedule

variable {w count : Word} {s : State} {f : Feed}

theorem scheduleActivate_of_bad (h : feedOf w = none) : scheduleActivate w count s = s.refused .badParam := by
  simp only [scheduleActivate, h]

theorem scheduleActivate_of_counting (h : feedOf w = some f) (hs : (s.csq.get f).pendingState ≠ .edit) :
    scheduleActivate w count s = s.refused .wrongState := by
  simp only [scheduleActivate, h]
  split
  · rfl
  · rename_i hedit
    exact absurd hedit hs

theorem scheduleActivate_of_failed {c : CheckResult} (h : feedOf w = some f) (hs : (s.csq.get f).pendingState = .edit)
    (hc : s.checkBank f (s.csq.get f).pendingBank = c) (hfail : c ≠ .pass) :
    scheduleActivate w count s = (s, c.refusal) := by
  obtain rfl | ⟨i, rfl⟩ := CheckResult.refusal_ne hfail <;> simp only [scheduleActivate, h, hs, hc]

theorem scheduleActivate_of_pass (h : feedOf w = some f) (hs : (s.csq.get f).pendingState = .edit)
    (hc : s.checkBank f (s.csq.get f).pendingBank = .pass) :
    scheduleActivate w count s = s.activate f (max 1 (min count.toNat 15)) := by
  simp only [scheduleActivate, h, hs, hc]
  rfl

theorem State.activate_of_stopped {n : Nat} (hs : (s.csq.get f).state = .stopped)
    (hedit : (s.csq.get f).pendingState = .edit) :
    s.activate f n =
      ({ s with
        csq := s.csq.set f { s.csq.get f with current := (s.csq.get f).pendingNo }
        stations := ((s.countBank (s.csq.get f).pendingBank).releaseBank (s.csq.get f).currentBank).stations
        streams := ((s.countBank (s.csq.get f).pendingBank).releaseBank (s.csq.get f).currentBank).streams
        mgp := { s.mgp with
          events := offerEventTo s.mgp.events (.scheduleSwapped f (s.csq.get f).beaconCount) } },
        ⟨.ok, [0]⟩) := by
  have hexchange := State.exchangeRoles_eq (s := s.countBank (s.csq.get f).pendingBank) rfl rfl f
  simp only [State.countBank_frame] at hexchange
  rw [State.activate, if_pos hs, hexchange, State.countBank_only, ← hedit]
  rfl

theorem State.activate_of_playing {n : Nat} (hs : (s.csq.get f).state ≠ .stopped) :
    s.activate f n =
      ({ s with
        csq := s.csq.set f { s.csq.get f with pendingState := .counting n }
        stations := (s.countBank (s.csq.get f).pendingBank).stations
        streams := (s.countBank (s.csq.get f).pendingBank).streams }, ⟨.ok, [word n]⟩) := by
  rw [State.activate, if_neg hs, State.countBank_only]
  rfl

theorem scheduleCancel_of_bad (h : feedOf w = none) : scheduleCancel w s = s.refused .badParam := by
  simp only [scheduleCancel, h]

theorem scheduleCancel_of_good (h : feedOf w = some f) : scheduleCancel w s = (s.cancelPending f, ⟨.ok, []⟩) := by
  simp only [scheduleCancel, h]
  rfl

end Schedule

/-- Settles O36. -/
theorem scheduleIsActivatedAndCancelled : Obligations.ScheduleIsActivatedAndCancelled := by
  refine ⟨fun w count s ps f q hps h => ⟨fun hbad => ?_, fun hf hq => ?_⟩,
    fun w s f q h => ⟨fun hbad => ?_, fun hf hq => ⟨fun hs => ?_, fun hs => ?_⟩⟩, ?_⟩
  · subst hps
    exact congrArg Host.Outcome.next (State.manage_of_refused h (scheduleActivate_of_bad hbad))
  · subst hps hq
    refine ⟨fun hs => ?_, fun hs hc => ?_, fun i hs hc => ?_, fun hs hc hstop => ?_, fun hs hc hplay => ?_⟩
    · exact congrArg Host.Outcome.next (State.manage_of_refused h (scheduleActivate_of_counting hf hs))
    · exact congrArg Host.Outcome.next (State.manage_of_reply h (scheduleActivate_of_failed hf hs hc nofun))
    · exact congrArg Host.Outcome.next (State.manage_of_reply h (scheduleActivate_of_failed hf hs hc nofun))
    · have hact := (scheduleActivate_of_pass (count := count) hf hs hc).trans (State.activate_of_stopped hstop hs)
      obtain ⟨streams, stations⟩ := s.countBank_adds (s.csq.get f).pendingBank
      obtain ⟨streams', stations'⟩ := (s.countBank (s.csq.get f).pendingBank).releaseBank_subtracts (s.csq.get f).currentBank
      refine ⟨_, congrArg Host.Outcome.next (State.manage_of_answer h hact), rfl, fun n => ?_, fun n => ?_⟩
      · refine (streams' n).trans ?_
        rw [streams]
      · refine (stations' n).trans ?_
        rw [stations]
    · have hact := (scheduleActivate_of_pass (count := count) hf hs hc).trans (State.activate_of_playing hplay)
      exact ⟨_, congrArg Host.Outcome.next (State.manage_of_answer h hact), rfl,
        s.countBank_adds (s.csq.get f).pendingBank⟩
  · exact congrArg Host.Outcome.next (State.manage_of_refused h (scheduleCancel_of_bad hbad))
  · subst hq
    have hcancel := scheduleCancel_of_good (s := s) hf
    rw [State.cancelPending_of_edit hs] at hcancel
    exact congrArg Host.Outcome.next (State.manage_of_reply h hcancel)
  · subst hq
    have hcancel := scheduleCancel_of_good (s := s) hf
    rw [State.cancelPending_of_counting hs] at hcancel
    exact ⟨_, congrArg Host.Outcome.next (State.manage_of_answer h hcancel), rfl⟩
  · rintro s t b rfl
    exact ⟨s.releaseBank_only b, s.releaseBank_subtracts b⟩

/-! ### FEED_CONFIGURE (R18, R27, R41, R78, R190) -/

theorem increasing_iff : ∀ bs : List Nat, increasing bs = true ↔ bs.Pairwise (· < ·)
  | [] => by simp [increasing]
  | [_] => by simp [increasing]
  | a :: b :: rest => by
    rw [increasing, Bool.and_eq_true, decide_eq_true_iff, increasing_iff (b :: rest), ← List.isChain_iff_pairwise,
      ← List.isChain_iff_pairwise, List.isChain_cons_cons]

theorem configFits_iff {p a n : Word} {bs : List Nat} :
    configFits p a n bs = true ↔
      p.toNat ∈ [2, 4, 6, 8] ∧ 1 ≤ a.toNat ∧ a.toNat ≤ 254 ∧ n.toNat ≤ 5 ∧ (∀ b ∈ bs, 1 ≤ b ∧ b ≤ 255) ∧
        bs.Pairwise (· < ·) := by
  simp only [configFits, boundariesFit, Bool.and_eq_true, List.contains_iff_mem, decide_eq_true_iff, List.all_eq_true,
    increasing_iff, and_assoc]

section Configure

variable {feed o p a n b1 b2 b3 b4 b5 : Word} {s : State} {f : Feed}

theorem feedConfigure_of_bad (h : feedOf feed = none) :
    feedConfigure feed o p a n b1 b2 b3 b4 b5 s = s.refused .badParam := by
  simp only [feedConfigure, h]

theorem feedConfigure_of_state (h : feedOf feed = some f)
    (hs : (s.csq.get f).state ≠ .stopped ∨ s.remoteMember f = true) :
    feedConfigure feed o p a n b1 b2 b3 b4 b5 s = s.refused .wrongState := by
  simp only [feedConfigure, h]
  exact if_pos (by simpa using hs)

theorem feedConfigure_of_ready {bs : List Nat} (h : feedOf feed = some f) (hs : (s.csq.get f).state = .stopped)
    (hr : s.remoteMember f = false) (hbs : bs = [b1.toNat, b2.toNat, b3.toNat, b4.toNat, b5.toNat].take n.toNat) :
    feedConfigure feed o p a n b1 b2 b3 b4 b5 s =
      if configFits p a n bs then
        (s.configure f o.toNat p.toNat (byte a.toNat) bs, Reply.done [])
      else s.refused .badParam := by
  subst hbs
  simp only [feedConfigure, h]
  exact if_neg (by simp [hs, hr])

end Configure

theorem State.configure_only (s : State) (f : Feed) (offset beaconLen : Nat) (a : Byte) (bs : List Nat) :
    s.configure f offset beaconLen a bs =
      { s with
        mtu := s.mtu.set f ((s.mtu.get f).configure offset bs s.now)
        csq := s.csq.set f { s.csq.get f with beaconLen := beaconLen, pendingState := .edit }
        stations := (s.configure f offset beaconLen a bs).stations
        streams := (s.cancelPending f).streams } := by
  refine State.eq_of_fields ?_ (s.configure_mtu ..) (s.configure_csq ..) ?_ rfl ?_ ?_ ?_ ?_ ?_ ?_ ?_ ?_ ?_ <;>
    simp [State.configure]

theorem State.configure_station (s : State) (f : Feed) (offset beaconLen : Nat) (a : Byte) (bs : List Nat)
    (m : StationIx) :
    (s.configure f offset beaconLen a bs).station m =
      if m = localStation f then { (s.cancelPending f).station m with member := some ⟨f, a⟩ }
      else (s.cancelPending f).station m := by
  rw [State.configure, State.station_setStation]
  split
  · rename_i hm
    rw [hm]
    rfl
  · rfl

/-- The zone events left by a new configuration (R18). -/
theorem Mtu.configure_zones (m : Mtu) (offset : Nat) (bs : List Nat) (now : Nat) :
    ∃ zs, m.configure offset bs now = { m with offset := offset, boundaries := bs, zonesDue := zs } ∧
      (∀ z ∈ zs, now < z.time) ∧ (m.originRec = none → zs = []) ∧
      ∀ r, m.originRec = some r →
        zs = (bs.zipIdx.map fun x => (⟨x.2 + 1, x.1, r.t0 + x.1 * r.estimate / 256⟩ : ZoneDue)).filter
          fun z => now < z.time := by
  cases h : m.originRec with
  | none =>
    refine ⟨[], ?_, nofun, fun _ => rfl, nofun⟩
    simp only [Mtu.configure, h]
  | some r =>
    refine ⟨(zoneEvents bs r).filter (now < ·.time), ?_, fun z hz => ?_, nofun, ?_⟩
    · simp only [Mtu.configure, h]
    · simpa using (List.mem_filter.1 hz).2
    · rintro _ ⟨⟩
      rfl

/-- Settles O30. -/
theorem feedConfigureAppliesItsFields : Obligations.FeedConfigureAppliesItsFields := by
  intro feed o p a n b1 b2 b3 b4 b5 s ps f bs hps h hbs
  subst hps
  refine ⟨fun hbad => ?_, fun hf hs => ?_, fun hf hs hr hbad => ?_, fun hf hs hr hp ha1 ha2 hn hb hinc => ?_⟩
  · exact congrArg Host.Outcome.next (State.manage_of_refused h (feedConfigure_of_bad hbad))
  · exact congrArg Host.Outcome.next (State.manage_of_refused h (feedConfigure_of_state hf hs))
  · have hunfit : ¬configFits p a n bs = true := fun hfit => by
      obtain ⟨hp, ha1, ha2, hn, hb, hinc⟩ := configFits_iff.1 hfit
      obtain hbad | hbad | hbad | hbad | ⟨b, hmem, hbad⟩ | hbad := hbad
      · exact hbad hp
      · omega
      · omega
      · omega
      · have := hb b hmem
        omega
      · exact hbad hinc
    have href := feedConfigure_of_ready (o := o) (p := p) (a := a) hf hs hr hbs
    rw [if_neg hunfit] at href
    exact congrArg Host.Outcome.next (State.manage_of_refused h href)
  · have hdone := feedConfigure_of_ready (o := o) (p := p) (a := a) hf hs hr hbs
    rw [if_pos (configFits_iff.2 ⟨hp, ha1, ha2, hn, hb, hinc⟩), State.configure_only] at hdone
    have station := s.configure_station f o.toNat p.toNat (byte a.toNat) bs
    refine ⟨_, congrArg Host.Outcome.next (State.manage_of_answer h hdone), rfl, ?_, ?_, fun hedit => ?_, fun hcount => ?_⟩
    · obtain ⟨zs, hzs, rest⟩ := (s.mtu.get f).configure_zones o.toNat bs s.now
      exact ⟨zs, congrArg (s.mtu.set f) hzs, rest⟩
    · refine (congrArg Station.member (station (localStation f))).trans ?_
      rw [if_pos rfl]
      rfl
    · rw [State.cancelPending_of_edit hedit] at station
      refine ⟨?_, ?_, fun m hm => ?_⟩
      · show (s.cancelPending f).streams = s.streams
        rw [State.cancelPending_of_edit hedit]
      · refine (congrArg Station.refs (station (localStation f))).trans ?_
        rw [if_pos rfl]
      · exact (station m).trans (if_neg hm)
    · obtain ⟨hstream, hstation⟩ := s.releaseBank_subtracts (s.csq.get f).pendingBank
      have cancelled (m : StationIx) : (s.cancelPending f).station m =
          { s.station m with refs := (s.station m).refs - (s.csq.get f).pendingBank.uses (.probe m) } := by
        rw [← hstation, State.cancelPending_of_counting hcount]
        rfl
      refine ⟨fun i => ?_, fun m => ?_⟩
      · have hi : (s.cancelPending f).stream i =
            { s.stream i with refs := (s.stream i).refs - (s.csq.get f).pendingBank.uses (.reserved i) } := by
          rw [← hstream, State.cancelPending_of_counting hcount]
          rfl
        show ((s.cancelPending f).stream i).state = _ ∧ ((s.cancelPending f).stream i).refs = _
        rw [hi]
        exact ⟨rfl, rfl⟩
      · have hm := station m
        rw [cancelled] at hm
        refine ⟨(congrArg Station.refs hm).trans ?_, (congrArg Station.generation hm).trans ?_, fun hne => ?_⟩
        · split <;> rfl
        · split <;> rfl
        · exact (congrArg Station.member hm).trans (by rw [if_neg hne])

end Sys2Proof.Machine
end

section
/-! Frames that arrive: those discarded (O57), HEARD (O41), and the blocks and the end of a measurement report (O43,
O44). -/
namespace Sys2Proof.Machine

/-! ### Taking a frame -/

/-- A response placed once the link is heard takes the frame, whatever else the owner has changed. -/
theorem State.tookFrame_answer {s w : State} {f : Feed} {c : Clc} (hw : w.clc = s.clc.set f c)
    (hl : c.link = .up (s.now + Config.lossTicks)) (hr : c.receiver = .waiting) (tag : Byte) (r : Response) :
    s.TookFrame (w.respond f tag r) f tag r := by
  obtain ⟨d, hd, hans, hadv⟩ := w.respond_spec f tag r
  have hlink : d.link = c.link := by simpa [hw] using hadv.link
  have hreceiver : d.receiver = c.receiver := by simpa [hw] using hadv.receiver
  rw [hd]
  refine ⟨by simpa [State.setClc] using hans, by simpa [State.setClc, hlink] using hl,
    by simpa [State.setClc, hreceiver] using hr, fun g hg => ?_⟩
  simp [State.setClc, PerFeed.get_set_of_ne _ hg, hw]

/-- A notice offered afterwards does not undo the taking. -/
theorem State.TookFrame.offerGeneral {s t : State} {f : Feed} {tag : Byte} {r : Response} (h : s.TookFrame t f tag r)
    (n : GeneralNotice) : s.TookFrame (t.offerGeneral f n) f tag r := by
  obtain ⟨hans, hlink, hreceiver, hothers⟩ := h
  obtain ⟨d, hd, hoff, -⟩ := t.offerGeneral_spec f n
  rw [hd]
  refine ⟨by simpa [State.setClc] using hoff.answers hans, by simpa [State.setClc] using hoff.link.trans hlink,
    by simpa [State.setClc] using hoff.receiver.trans hreceiver, fun g hg => ?_⟩
  simpa [State.setClc, PerFeed.get_set_of_ne _ hg] using hothers g hg

theorem State.hearing_clc_eq (s : State) (f : Feed) :
    (s.hearing f).clc = s.clc.set f ((s.hearing f).clc.get f) := by
  simp [State.hearing]

theorem State.tookFrame_hearing (s : State) (f : Feed) (tag : Byte) (r : Response) :
    s.TookFrame ((s.hearing f).respond f tag r) f tag r :=
  State.tookFrame_answer (s.hearing_clc_eq f) (by simp) (by simp) tag r

/-- A change of CLC f that keeps its link and receiver, then a response. -/
theorem State.tookFrame_changed (s : State) (f : Feed) {c : Clc} (hl : c.link = ((s.hearing f).clc.get f).link)
    (hr : c.receiver = ((s.hearing f).clc.get f).receiver) {w : State} (hw : w.clc = (s.hearing f).clc.set f c)
    (tag : Byte) (r : Response) : s.TookFrame (w.respond f tag r) f tag r := by
  refine State.tookFrame_answer (c := c) ?_ (by simp [hl]) (by simp [hr]) tag r
  rw [hw, State.hearing_clc_eq, PerFeed.set_set]

/-! ### Discarded frames (R171, R173, R174) -/

theorem State.validSymbol_eq {s : State} {f : Feed} {up : LinkState} (hdown : (s.clc.get f).link = .down → up = .down)
    (hup : ∀ d, (s.clc.get f).link = .up d → up = .up (s.now + Config.lossTicks)) :
    s.validSymbol f = s.setClc f { s.clc.get f with link := up } := by
  unfold State.validSymbol
  split
  · rename_i d h
    rw [hup d h]
  · rename_i h
    rw [hdown h, ← h]
    exact (s.setClc_get f).symm

/-- Settles O57. -/
theorem discardedFramesLeaveTheRest : Obligations.DiscardedFramesLeaveTheRest := by
  rintro f s _ up rfl hdown hup
  have valid (r : Receiver) : (s.validSymbol f).setReceiver f r =
      { s with clc := s.clc.set f { s.clc.get f with receiver := r, link := up } } := by
    rw [State.validSymbol_eq hdown hup]
    simp [State.setReceiver, State.setClc]
  refine ⟨?_, ?_, rfl, ?_, ?_, ?_⟩
  · rintro g (rfl | rfl) <;> exact congrArg Host.Outcome.next (valid .waiting)
  · exact congrArg Host.Outcome.next (valid (.collecting []))
  · exact congrArg Host.Outcome.next (valid (.collecting []))
  · rintro why (rfl | rfl | rfl) <;> exact congrArg Host.Outcome.next (valid .waiting)
  · exact congrArg Host.Outcome.next (s.heardFrame_eq f)

/-! ### HEARD (R88, R89) -/

theorem State.holderOf_congr {s t : State} (h : t.stations = s.stations) (f : Feed) (a : Nat) :
    t.holderOf f a = s.holderOf f a := by
  simp only [State.holderOf, State.station_congr h]

theorem byte_ne_zero {a : Byte} (h : a ≠ 0) : a.toNat ≠ 0 := fun h0 => h (BitVec.eq_of_toNat_eq h0)

theorem byte_ne_255 {a : Byte} (h : a ≠ 255) : a.toNat ≠ 255 := fun h0 => h (BitVec.eq_of_toNat_eq h0)

section Heard

variable {s : State} {f : Feed} {tag address : Byte} {n : StationIx}

theorem State.hear_of_bad (h : address = 0 ∨ address = 255) :
    s.hear f tag address = s.respond f tag (.refused .badParam) := by
  obtain rfl | rfl := h <;> rfl

theorem State.hear_of_local (h0 : address ≠ 0) (h1 : address ≠ 255) (h : s.holderOf f address.toNat = some n)
    (hn : n.val < 3) : s.hear f tag address = s.respond f tag (.refused .badParam) := by
  rw [State.hear, if_neg (by simp [byte_ne_zero h0, byte_ne_255 h1]), h]
  exact if_pos hn

theorem State.hear_of_remote (h0 : address ≠ 0) (h1 : address ≠ 255) (h : s.holderOf f address.toNat = some n)
    (hn : 3 ≤ n.val) : s.hear f tag address = s.respond f tag (.acceptedHeard (some n)) := by
  rw [State.hear, if_neg (by simp [byte_ne_zero h0, byte_ne_255 h1]), h]
  exact if_neg (by omega)

theorem State.hear_of_unknown (h0 : address ≠ 0) (h1 : address ≠ 255) (h : s.holderOf f address.toNat = none) :
    s.hear f tag address =
      { s.respond f tag (.acceptedHeard none) with
        mgp := { s.mgp with
          events := if .stationHeard f address ∈ s.mgp.events then s.mgp.events
            else offerEventTo s.mgp.events (.stationHeard f address) } } := by
  rw [State.hear, if_neg (by simp [byte_ne_zero h0, byte_ne_255 h1]), h]
  have hmgp : (s.respond f tag (.acceptedHeard none)).mgp = s.mgp := by simp
  simp only [State.heardQueued, List.contains_iff_mem]
  split
  · rw [← hmgp]
  · rw [State.offerEvent, hmgp]
    rfl

theorem exec_heard (hs : (s.clc.get f).slot = none) :
    exec (.heard f tag address) s = .next ((s.hearing f).hear f tag address) :=
  congrArg Host.Outcome.next (State.takeFrame_eq hs fun t => t.hear f tag address)

end Heard

/-- Settles O41. -/
theorem heardIsAnsweredFromTheTable : Obligations.HeardIsAnsweredFromTheTable := by
  rintro f tag address s _ hs rfl
  have holder : (s.hearing f).holderOf f address.toNat = s.holderOf f address.toNat := State.holderOf_congr rfl f _
  refine ⟨fun hbad => ?_, fun n h0 h1 hn hlocal => ?_, fun n h0 h1 hn hremote => ?_, fun h0 h1 hnone => ?_⟩
  · exact ⟨_, (exec_heard hs).trans (by rw [State.hear_of_bad hbad]), s.tookFrame_hearing f tag _, rfl⟩
  · exact ⟨_, (exec_heard hs).trans (by rw [State.hear_of_local h0 h1 (holder.trans hn) hlocal]),
      s.tookFrame_hearing f tag _, rfl⟩
  · exact ⟨_, (exec_heard hs).trans (by rw [State.hear_of_remote h0 h1 (holder.trans hn) hremote]),
      s.tookFrame_hearing f tag _, rfl⟩
  · exact ⟨_, (exec_heard hs).trans (congrArg Host.Outcome.next (State.hear_of_unknown h0 h1 (holder.trans hnone))),
      s.tookFrame_hearing f tag (.acceptedHeard none), rfl, rfl⟩

/-! ### The open report (R98, R101 to R105) -/

theorem Clc.openReport_of_filling {c : Clc} {b : BufNo} {gap : Nat} {r : Report} (h : c.report = .open_ b gap)
    (hb : c.buffer b = .filling r) : c.openReport = some (b, r) := by
  simp only [Clc.openReport, h, hb]

theorem Clc.openReport_of_not_open {c : Clc} (h : ∀ b gap, c.report ≠ .open_ b gap) : c.openReport = none := by
  unfold Clc.openReport
  split
  · rename_i b gap hopen
    exact absurd hopen (h b gap)
  · rfl

theorem Clc.closeReport_of_filling {c : Clc} {b : BufNo} {gap : Nat} {r : Report} (h : c.report = .open_ b gap)
    (hb : c.buffer b = .filling r) (next : ReportState) :
    c.closeReport next = { c.setBuffer b .free with report := next } := by
  simp only [Clc.closeReport, Clc.openReport_of_filling h hb]

theorem Clc.closeReport_of_not_open {c : Clc} (h : ∀ b gap, c.report ≠ .open_ b gap) (next : ReportState) :
    c.closeReport next = { c with report := next } := by
  simp only [Clc.closeReport, Clc.openReport_of_not_open h]

/-- What a CLC keeps whatever is put in a buffer and whatever becomes of the report state. -/
theorem Clc.setBuffer_link (c : Clc) (b : BufNo) (x : Buffer) : (c.setBuffer b x).link = c.link := by cases b <;> rfl

theorem Clc.setBuffer_receiver (c : Clc) (b : BufNo) (x : Buffer) : (c.setBuffer b x).receiver = c.receiver := by
  cases b <;> rfl

theorem Clc.closeReport_link (c : Clc) (next : ReportState) : (c.closeReport next).link = c.link := by
  unfold Clc.closeReport
  split
  · exact Clc.setBuffer_link ..
  · rfl

theorem Clc.closeReport_receiver (c : Clc) (next : ReportState) : (c.closeReport next).receiver = c.receiver := by
  unfold Clc.closeReport
  split
  · exact Clc.setBuffer_receiver ..
  · rfl

theorem Clc.closeReport_report (c : Clc) (next : ReportState) : (c.closeReport next).report = next := by
  unfold Clc.closeReport
  split <;> rfl

/-- The buffers once a buffer has been filled anew and the report state has changed. -/
theorem Clc.buffer_refilled (c : Clc) (b a : BufNo) (x : Buffer) (st : ReportState) :
    ({ c.setBuffer b x with report := st } : Clc).buffer a = if a = b then x else c.buffer a :=
  (Clc.buffer_congr (c := c.setBuffer b x) rfl rfl a).trans (Clc.buffer_setBuffer c a b x)

theorem State.offerGeneral_keeps_report (s : State) (f : Feed) (n : GeneralNotice) :
    ((s.offerGeneral f n).clc.get f).report = (s.clc.get f).report ∧
      ∀ a, ((s.offerGeneral f n).clc.get f).buffer a = (s.clc.get f).buffer a := by
  obtain ⟨d, hd, hoff, -⟩ := s.offerGeneral_spec f n
  have hget : (s.offerGeneral f n).clc.get f = d := by simp [hd]
  rw [hget]
  exact ⟨hoff.report, hoff.buffer⟩

/-- What an owner that changes CLC f, keeping its link and receiver, and then answers leaves of that CLC. -/
theorem State.changed_respond (s : State) (f : Feed) {c : Clc} (hl : c.link = ((s.hearing f).clc.get f).link)
    (hr : c.receiver = ((s.hearing f).clc.get f).receiver) (tag : Byte) (r : Response) :
    s.TookFrame (((s.hearing f).setClc f c).respond f tag r) f tag r ∧
      ((((s.hearing f).setClc f c).respond f tag r).clc.get f).report = c.report ∧
      ∀ a, ((((s.hearing f).setClc f c).respond f tag r).clc.get f).buffer a = c.buffer a := by
  refine ⟨s.tookFrame_respond f tag r hl hr, ?_⟩
  simpa using ((s.hearing f).setClc f c).respond_keeps_report f tag r

section Blocks

variable {s : State} {f : Feed} {tag sequence : Byte} {values : Vector Byte 8} {b : BufNo} {gap : Nat} {r : Report}

theorem State.measureBlock_of_next (h : (s.clc.get f).openReport = some (b, r)) (hseq : sequence.toNat = r.expected)
    (hmore : r.expected + 1 < r.firstBlock + r.blocks) :
    s.measureBlock f tag sequence values =
      (s.setClc f { (s.clc.get f).setBuffer b (.filling (r.extend values)) with
        report := .open_ b (s.now + Config.gapTicks) }).respond f tag .accepted := by
  simp only [State.measureBlock, h]
  rw [if_pos hseq, State.acceptBlock]
  exact if_pos hmore

theorem State.respond_setPlanner (s : State) (p : Planner) (f : Feed) (tag : Byte) (x : Response) :
    (s.setPlanner p).respond f tag x = (s.respond f tag x).setPlanner p := by
  rw [State.respond_eq, State.respond_eq]
  rfl

theorem State.measureBlock_of_last (h : (s.clc.get f).openReport = some (b, r)) (hseq : sequence.toNat = r.expected)
    (hlast : r.firstBlock + r.blocks ≤ r.expected + 1) :
    s.measureBlock f tag sequence values =
      ((s.setClc f { (s.clc.get f).setBuffer b (.full (r.extend values)) with report := .idle }).respond f tag
        (.reportClosed r.link r.zone)).setPlanner
          { s.planner with foldQueue := s.planner.foldQueue ++ [⟨f, b⟩] } := by
  simp only [State.measureBlock, h]
  rw [if_pos hseq, State.acceptBlock, ← State.respond_setPlanner]
  exact if_neg (Nat.not_lt.mpr hlast)

theorem State.measureBlock_of_wrong (h : (s.clc.get f).openReport = some (b, r)) (hseq : sequence.toNat ≠ r.expected) :
    s.measureBlock f tag sequence values =
      ((s.setClc f ((s.clc.get f).closeReport .idle)).respond f tag (.refused .badParam)).offerGeneral f
        (.reportAbandoned r.link r.zone .sequence r.received) := by
  simp only [State.measureBlock, h]
  exact if_neg hseq

theorem State.measureBlock_of_removed (h : (s.clc.get f).report = .removed) :
    s.measureBlock f tag sequence values =
      (s.setClc f { s.clc.get f with report := .idle }).respond f tag (.refused .noLink) := by
  simp only [State.measureBlock, Clc.openReport, h]
  rfl

theorem State.measureBlock_of_idle (h : (s.clc.get f).report = .idle) :
    s.measureBlock f tag sequence values = s.respond f tag (.refused .wrongState) := by
  simp only [State.measureBlock, Clc.openReport, h]
  rfl

theorem exec_measureBlock (hs : (s.clc.get f).slot = none) :
    exec (.measureBlock f tag sequence values) s = .next ((s.hearing f).measureBlock f tag sequence values) :=
  congrArg Host.Outcome.next (State.takeFrame_eq hs fun t => t.measureBlock f tag sequence values)

theorem State.hearing_openReport (h : (s.clc.get f).report = .open_ b gap) (hb : (s.clc.get f).buffer b = .filling r) :
    ((s.hearing f).clc.get f).openReport = some (b, r) :=
  Clc.openReport_of_filling ((s.hearing_report f).trans h) ((s.hearing_buffer f b).trans hb)

end Blocks

/-- Settles O43. -/
theorem measureBlockExtendsTheReport : Obligations.MeasureBlockExtendsTheReport := by
  rintro f tag sequence values s _ _ hs rfl rfl
  refine ⟨fun b gap r hopen hb => ?_, fun hremoved => ?_, fun hidle => ?_⟩
  · have hreport := State.hearing_openReport hopen hb
    have refilled (x : Buffer) (st : ReportState) (y : Response) :=
      s.changed_respond f (c := { ((s.hearing f).clc.get f).setBuffer b x with report := st })
        (Clc.setBuffer_link ..) (Clc.setBuffer_receiver ..) tag y
    have own (x : Buffer) (st : ReportState) :
        ({ ((s.hearing f).clc.get f).setBuffer b x with report := st } : Clc).buffer b = x :=
      (Clc.buffer_refilled ..).trans (if_pos rfl)
    have other (x : Buffer) (st : ReportState) (a : BufNo) (ha : a ≠ b) :
        ({ ((s.hearing f).clc.get f).setBuffer b x with report := st } : Clc).buffer a = (s.clc.get f).buffer a :=
      ((Clc.buffer_refilled ..).trans (if_neg ha)).trans (s.hearing_buffer f a)
    refine ⟨fun hseq hmore => ?_, fun hseq hlast => ?_, fun hseq => ?_⟩
    · obtain ⟨htook, hrep, hbuf⟩ := refilled (.filling (r.extend values)) (.open_ b (s.now + 25000)) .accepted
      exact ⟨_, (exec_measureBlock hs).trans (congrArg Host.Outcome.next (State.measureBlock_of_next hreport hseq hmore)),
        htook, rfl, hrep, (hbuf b).trans (own ..), fun a ha => (hbuf a).trans (other _ _ a ha)⟩
    · obtain ⟨htook, hrep, hbuf⟩ := refilled (.full (r.extend values)) .idle (.reportClosed r.link r.zone)
      exact ⟨_, (exec_measureBlock hs).trans (congrArg Host.Outcome.next (State.measureBlock_of_last hreport hseq hlast)),
        htook, rfl, hrep, (hbuf b).trans (own ..), fun a ha => (hbuf a).trans (other _ _ a ha)⟩
    · have hwrong := State.measureBlock_of_wrong (tag := tag) (values := values) hreport hseq
      rw [Clc.closeReport_of_filling ((s.hearing_report f).trans hopen) ((s.hearing_buffer f b).trans hb)] at hwrong
      obtain ⟨htook, hrep, hbuf⟩ := refilled .free .idle (.refused .badParam)
      obtain ⟨hrep', hbuf'⟩ := State.offerGeneral_keeps_report (((s.hearing f).setClc f
        { ((s.hearing f).clc.get f).setBuffer b .free with report := .idle }).respond f tag (.refused .badParam)) f
          (.reportAbandoned r.link r.zone .sequence r.received)
      exact ⟨_, (exec_measureBlock hs).trans (congrArg Host.Outcome.next hwrong), htook.offerGeneral _, rfl,
        hrep'.trans hrep, ((hbuf' b).trans (hbuf b)).trans (own ..),
        fun a ha => ((hbuf' a).trans (hbuf a)).trans (other _ _ a ha)⟩
  · obtain ⟨htook, hrep, hbuf⟩ := s.changed_respond f (c := { (s.hearing f).clc.get f with report := .idle }) rfl rfl tag
      (.refused .noLink)
    exact ⟨_, (exec_measureBlock hs).trans
      (congrArg Host.Outcome.next (State.measureBlock_of_removed ((s.hearing_report f).trans hremoved))), htook, rfl, hrep,
      fun a => ((hbuf a).trans (Clc.buffer_congr rfl rfl a)).trans (s.hearing_buffer f a)⟩
  · obtain ⟨hrep, hbuf⟩ := (s.hearing f).respond_keeps_report f tag (.refused .wrongState)
    exact ⟨_, (exec_measureBlock hs).trans
      (congrArg Host.Outcome.next (State.measureBlock_of_idle ((s.hearing_report f).trans hidle))),
      s.tookFrame_hearing f tag _, rfl, (hrep.trans (s.hearing_report f)).trans hidle,
      fun a => (hbuf a).trans (s.hearing_buffer f a)⟩

section Ends

variable {s : State} {f : Feed} {tag : Byte} {b : BufNo} {gap : Nat} {r : Report}

theorem exec_measureAbort (hs : (s.clc.get f).slot = none) :
    exec (.measureAbort f tag) s =
      .next (((s.hearing f).setClc f (((s.hearing f).clc.get f).closeReport .idle)).respond f tag .accepted) :=
  congrArg Host.Outcome.next (State.takeFrame_eq hs fun t => t.measureAbort f tag)

/-- The end of a report makes no buffer but a FILLING one FREE. -/
theorem Clc.closeReport_buffer_of_not_filling {c : Clc} {a : BufNo} (h : ∀ r, c.buffer a ≠ .filling r)
    (next : ReportState) : (c.closeReport next).buffer a = c.buffer a := by
  unfold Clc.closeReport
  split
  · rename_i b r hopen
    obtain ⟨-, hb⟩ := Clc.openReport_spec hopen
    have hne : a ≠ b := fun hab => h r (hab ▸ hb)
    exact (Clc.buffer_refilled c b a .free next).trans (if_neg hne)
  · exact Clc.buffer_congr rfl rfl a

theorem exec_gapDeadlineExpiry_of_due (hopen : (s.clc.get f).report = .open_ b gap)
    (hb : (s.clc.get f).buffer b = .filling r) (hdue : gap ≤ s.now) :
    exec (.gapDeadlineExpiry f) s =
      .next ((s.setClc f { (s.clc.get f).setBuffer b .free with report := .idle }).offerGeneral f
        (.reportAbandoned r.link r.zone .timeout r.received)) := by
  show execGapDeadlineExpiry f s = _
  rw [execGapDeadlineExpiry, Clc.openReport_of_filling hopen hb, Clc.closeReport_of_filling hopen hb, Clc.gapDue, hopen]
  exact congrArg Host.Outcome.next (if_pos (decide_eq_true hdue))

theorem exec_gapDeadlineExpiry_of_early (h : (s.clc.get f).gapDue s.now = false) :
    exec (.gapDeadlineExpiry f) s = .next s := by
  show execGapDeadlineExpiry f s = _
  rw [execGapDeadlineExpiry, h]
  rfl

end Ends

/-- Settles O44. -/
theorem abortAndGapEndTheReport : Obligations.AbortAndGapEndTheReport := by
  rintro f tag s _ rfl
  refine ⟨fun hs => ?_, fun b gap r hopen hb hdue => ⟨_, exec_gapDeadlineExpiry_of_due hopen hb hdue, rfl⟩,
    fun b gap hopen hearly => ?_, fun hnot => ?_⟩
  · obtain ⟨htook, hrep, hbuf⟩ := s.changed_respond f (c := ((s.hearing f).clc.get f).closeReport .idle)
      (Clc.closeReport_link ..) (Clc.closeReport_receiver ..) tag .accepted
    refine ⟨_, exec_measureAbort hs, htook, hrep.trans (Clc.closeReport_report ..), ?_, fun b gap r hopen hb => ?_,
      fun b hb => ?_⟩
    · rintro u rfl
      refine ⟨fun b gap r hopen hb => ?_, fun hnot => ?_⟩
      · rw [Clc.closeReport_of_filling ((s.hearing_report f).trans hopen) ((s.hearing_buffer f b).trans hb)]
      · rw [Clc.closeReport_of_not_open fun b gap => by rw [State.hearing_report]; exact hnot b gap]
    · rw [hbuf, Clc.closeReport_of_filling ((s.hearing_report f).trans hopen) ((s.hearing_buffer f b).trans hb)]
      exact (Clc.buffer_refilled ..).trans (if_pos rfl)
    · rw [hbuf, Clc.closeReport_buffer_of_not_filling (by simpa only [State.hearing_buffer] using hb),
        State.hearing_buffer]
  · refine exec_gapDeadlineExpiry_of_early ?_
    rw [Clc.gapDue, hopen]
    exact decide_eq_false (Nat.not_le.mpr hearly)
  · refine exec_gapDeadlineExpiry_of_early ?_
    unfold Clc.gapDue
    split
    · rename_i b gap hopen
      exact absurd hopen (hnot b gap)
    · rfl

end Sys2Proof.Machine
end

section
/-! Chapter 6, fold jobs: their taking and completion, and the records they write (O45). -/
namespace Sys2Proof.Machine

/-! ### The fold of a value and of a report (R112, R113) -/

theorem foldGroup_of_unseen {g : GroupRecord} (h : g.seen = false) (x : Nat) : foldGroup g x = ⟨4 * x, true⟩ := by
  rw [foldGroup, h]
  rfl

theorem foldGroup_of_above {g : GroupRecord} {x d : Nat} (h : g.seen = true) (hx : 4 * x = g.acc + d) :
    foldGroup g x = ⟨g.acc + d / 4, true⟩ := by
  rw [foldGroup, h, if_pos rfl, if_pos (by omega), hx, Nat.add_sub_cancel_left]

theorem foldGroup_of_below {g : GroupRecord} {x d : Nat} (h : g.seen = true) (hx : g.acc = 4 * x + d) :
    foldGroup g x = ⟨g.acc - d / 4, true⟩ := by
  obtain ⟨acc, seen⟩ := g
  subst h hx
  rw [foldGroup, if_pos rfl]
  split
  · rename_i hle
    have hsum : 4 * x + d ≤ 4 * x := hle
    obtain rfl : d = 0 := by omega
    simp
  · simp only [Nat.add_sub_cancel_left]

/-- A group outside the values of a report is kept. -/
theorem foldValues_of_outside (vs : List Byte) (groups : Vector GroupRecord 96) (start : Nat) (g : Fin 96)
    (h : g.val < start ∨ start + vs.length ≤ g.val) : (foldValues groups start vs)[g] = groups[g] := by
  induction vs generalizing groups start with
  | nil => rfl
  | cons v rest ih =>
    rw [List.length_cons] at h
    rw [foldValues, ih _ _ (by omega)]
    split
    · exact Vector.getElem_set_ne _ _ (by omega)
    · rfl

/-- A group takes the value at its place in a report. -/
theorem foldValues_of_inside (vs : List Byte) (groups : Vector GroupRecord 96) (start : Nat) (g : Fin 96) {v : Byte}
    (hv : vs[g.val - start]? = some v) (h : start ≤ g.val) :
    (foldValues groups start vs)[g] = foldGroup groups[g] v.toNat := by
  induction vs generalizing groups start with
  | nil => cases hv
  | cons w rest ih =>
    rw [foldValues]
    obtain rfl | hlt := h.eq_or_lt
    · rw [foldValues_of_outside _ _ _ _ (by omega), dif_pos g.isLt]
      rw [Nat.sub_self, List.getElem?_cons_zero, Option.some.injEq] at hv
      subst hv
      exact Vector.getElem_set_self _
    · have hv' : rest[g.val - (start + 1)]? = some v := by
        rwa [show g.val - start = g.val - (start + 1) + 1 by omega, List.getElem?_cons_succ] at hv
      rw [ih _ _ hv' hlt, dif_pos (by omega)]
      exact congrArg (foldGroup · v.toNat) (Vector.getElem_set_ne _ _ (by omega))

/-! ### Normal offers (R119) -/

theorem Planner.queued_iff {p : Planner} {l : LinkNo} :
    p.queued l = true ↔ ∃ e ∈ p.urgent ++ p.normal, e.link = l := by
  simp [Planner.queued, or_and_right, exists_or]

theorem Planner.offerNormal_of_new {p : Planner} {l : LinkNo} (h : ∀ e ∈ p.urgent ++ p.normal, e.link ≠ l) :
    p.offerNormal l = { p with normal := p.normal ++ [⟨l, .plan⟩] } :=
  if_neg fun hq => by
    obtain ⟨e, he, hl⟩ := Planner.queued_iff.1 hq
    exact h e he hl

theorem Planner.offerNormal_of_queued {p : Planner} {l : LinkNo} (h : ∃ e ∈ p.urgent ++ p.normal, e.link = l) :
    p.offerNormal l = p := if_pos (Planner.queued_iff.2 h)

/-! ### Taking and completing a fold job (R111) -/

theorem exec_foldJobTake {s : State} {r : BufRef} {rest : List BufRef} {x : Report} (he : s.planner.engine = .idle)
    (hq : s.planner.foldQueue = r :: rest) (hb : (s.clc.get r.feed).buffer r.buf = .full x) :
    exec .foldJobTake s =
      .next ((s.setBuffer r (.folding x)).setPlanner { s.planner with engine := .folding r, foldQueue := rest }) := by
  show execFoldJobTake s = _
  simp only [execFoldJobTake, he, hq, hb]
  rfl

theorem exec_foldComplete {s : State} {r : BufRef} {x : Report} (he : s.planner.engine = .folding r)
    (hb : (s.clc.get r.feed).buffer r.buf = .folding x) :
    exec .foldComplete s =
      .next (((s.endFold x).setBuffer r .free).setPlanner { (s.endFold x).planner with engine := .idle }) := by
  show execFoldComplete s = _
  simp only [execFoldComplete, he, hb]

theorem State.endFold_of_gone {s : State} {x : Report}
    (h : ∀ k, s.link x.link = some k → k.record.generation ≠ x.generation) : s.endFold x = s := by
  unfold State.endFold
  split
  · rename_i k hk
    exact if_neg (h k hk)
  · rfl

/-- The link of a report once it is folded (R112). -/
def Link.folded (k : Link) (x : Report) : Link := { k with channel := k.channel.modify x.zone (foldZone x) }

theorem State.endFold_of_live {s : State} {x : Report} {k : Link} (hk : s.link x.link = some k)
    (hg : k.record.generation = x.generation) :
    s.endFold x =
      (s.setLink x.link (some (k.folded x))).setPlanner
        (if (k.folded x).reachesThreshold x.zone then s.planner.offerNormal x.link else s.planner) := by
  simp only [State.endFold, hk, if_pos hg, State.foldReport]
  split
  · exact (if_pos ‹_›).symm ▸ rfl
  · exact (if_neg ‹_›).symm ▸ rfl

theorem Link.folded_reaches_iff {k : Link} {x : Report} :
    (k.folded x).reachesThreshold x.zone = true ↔
      ∃ z, k.channel[x.zone]? = some z ∧ k.record.threshold ≤ min (z.sincePlan + 1) 15 := by
  have hzone : (k.folded x).channel[x.zone]? = k.channel[x.zone]?.map (foldZone x) :=
    (List.getElem?_modify ..).trans (by simp)
  rw [Link.reachesThreshold, hzone]
  cases k.channel[x.zone]? with
  | none => simp
  | some z => exact decide_eq_true_iff.trans (by simp [foldZone, Link.folded])

/-- Settles O45. -/
theorem reportsAreFoldedIntoTheRecords : Obligations.ReportsAreFoldedIntoTheRecords := by
  refine ⟨⟨fun s r rest x he hq hb => exec_foldJobTake he hq hb, fun s r x he hb => ⟨fun hgone => ?_, fun k hk hg => ?_⟩⟩,
    fun g x h => foldGroup_of_unseen h x, fun g x d h hx => foldGroup_of_above h hx,
    fun g x d h hx => foldGroup_of_below h hx,
    fun r z g => ⟨rfl, rfl, fun v hv hle => foldValues_of_inside _ _ _ g hv hle,
      fun hout => foldValues_of_outside _ _ _ g hout⟩⟩
  · rw [exec_foldComplete he hb, State.endFold_of_gone hgone]
    rfl
  · have hdone := exec_foldComplete he hb
    rw [State.endFold_of_live hk hg] at hdone
    refine ⟨_, hdone, rfl, ?_, fun l hl => ?_, rfl, fun z hz hreach hnew => ?_, fun hnot => ?_⟩
    · exact (s.link_setLink (State.six_le_of_link hk) x.link _).trans (if_pos rfl)
    · exact (s.link_setLink (State.six_le_of_link hk) l _).trans (if_neg hl)
    · show ({ (if _ then _ else _ : Planner) with engine := .idle } : Planner) = _
      rw [if_pos (Link.folded_reaches_iff.2 ⟨z, hz, hreach⟩), Planner.offerNormal_of_new hnew]
    · show ({ (if _ then _ else _ : Planner) with engine := .idle } : Planner) = _
      split
      · rename_i hreach
        obtain ⟨z, hz, hle⟩ := Link.folded_reaches_iff.1 hreach
        obtain hbelow | hqueued := hnot
        · exact absurd (hbelow z hz) (by omega)
        · rw [Planner.offerNormal_of_queued hqueued]
      · rfl

end Sys2Proof.Machine
end

section
/-! Chapter 7, plan jobs: their taking (O46), their completion and the release of a claim (O47), and the offers that
NOTCH_SET and PLAN_NOW make (O49). -/
namespace Sys2Proof.Machine

/-! ### Taking a plan job (R117, R122, R123) -/

theorem exec_planJobTake_of_nothing {s : State} (h : s.planner.engine ≠ .idle ∨ s.planner.foldQueue ≠ [] ∨
    s.planner.urgent = [] ∧ s.planner.normal = []) : exec .planJobTake s = .next s := by
  show execPlanJobTake s = _
  unfold execPlanJobTake
  split
  · rename_i he hq
    obtain h | h | ⟨hu, hn⟩ := h
    · exact absurd he h
    · exact absurd hq h
    · rw [Planner.nextPlan, hu, hn]
  · rfl

theorem exec_planJobTake_of_entry {s : State} {e : PlanEntry} {p : Planner} (he : s.planner.engine = .idle)
    (hq : s.planner.foldQueue = []) (hn : s.planner.nextPlan = some (e, p)) :
    exec .planJobTake s = .next (s.takePlan e p) := by
  show execPlanJobTake s = _
  simp only [execPlanJobTake, he, hq, hn]

theorem Planner.nextPlan_eq {p q : Planner} {e : PlanEntry} {rest : List PlanEntry}
    (h : p.urgent = e :: rest ∧ q = { p with urgent := rest } ∨
      p.urgent = [] ∧ p.normal = e :: rest ∧ q = { p with normal := rest }) : p.nextPlan = some (e, q) := by
  obtain ⟨hu, rfl⟩ | ⟨hu, hn, rfl⟩ := h
  · simp only [Planner.nextPlan, hu]
  · simp only [Planner.nextPlan, hu, hn]

theorem State.takePlan_of_live {s : State} {e : PlanEntry} {p : Planner} {k : Link} (hk : s.link e.link = some k) :
    s.takePlan e p =
      (s.setLink e.link (some k.resetSincePlan)).setPlanner
        (if (s.jobFor e k).endsAtOnce then p
         else { p with engine := .planning (s.jobFor e k) (planZones (s.jobFor e k) k.channel) }) := by
  simp only [State.takePlan, hk]

theorem PlanJob.endsAtOnce_iff {job : PlanJob} :
    job.endsAtOnce = true ↔ job.cause = .plan ∧ (job.grade = .robust ∨ job.grade = .unreachable) := by
  simp [PlanJob.endsAtOnce]

/-- Settles O46. -/
theorem planJobsAreTakenInOrder : Obligations.PlanJobsAreTakenInOrder := by
  refine ⟨fun s h => exec_planJobTake_of_nothing h, fun s u e rest k p job he hq hk hp hu hjob => ?_⟩
  subst hu hjob
  have htake := exec_planJobTake_of_entry he hq (Planner.nextPlan_eq hp)
  rw [State.takePlan_of_live hk] at htake
  refine ⟨fun hplan hgrade => ?_, fun hother => ?_⟩
  · rw [htake, if_pos (PlanJob.endsAtOnce_iff.2 ⟨hplan, hgrade⟩)]
    rfl
  · have hnot : ¬(s.jobFor e k).endsAtOnce = true := fun hends => by
      obtain ⟨hplan, hgrade⟩ := PlanJob.endsAtOnce_iff.1 hends
      have hgrade' : k.record.grade = .robust ∨ k.record.grade = .unreachable := hgrade
      obtain h | h | h := hother
      · exact h hplan
      · simp [h] at hgrade'
      · simp [h] at hgrade'
    rw [htake, if_neg hnot]
    rfl

/-! ### Completion of a plan job (R124, R125, R131) -/

theorem exec_planComputeEnd_of_none {s : State} (h : ∀ job zones, s.planner.engine ≠ .planning job zones) :
    exec .planComputeEnd s = .next s := by
  show execPlanComputeEnd s = _
  unfold execPlanComputeEnd
  split
  · rename_i job zones he
    exact absurd he (h job zones)
  · rfl

theorem exec_planComputeEnd {s : State} {job : PlanJob} {zones : List ZoneMap}
    (h : s.planner.engine = .planning job zones) :
    exec .planComputeEnd s =
      .next (if s.claimedLink job.link then s.setPlanner { s.planner with engine := .waitingClaim job zones }
        else s.completePlan job zones) := by
  show execPlanComputeEnd s = _
  simp only [execPlanComputeEnd, h]

theorem PlanJob.publishes_iff {job : PlanJob} {zones : List ZoneMap} {k : Link} :
    job.publishes zones k = true ↔ k.record.generation = job.generation ∧ k.record.grade = job.grade ∧
      (job.cause = .plan → worthPublishing zones k.held = true) := by
  simp [PlanJob.publishes, and_assoc, imp_iff_not_or]

theorem countdownOf_eq (c : Cause) : countdownOf c = if c = .stepDown then 1 else 2 := by cases c <;> rfl

/-- The NEXT set of a publication, by its parts (R157, R158). -/
theorem Link.staged_eq {k : Link} {n : NextSet} {zones : List ZoneMap} {grade : Grade} {cause : Cause}
    (hz : n.maps.zones = zones) (hg : n.maps.grade = grade)
    (hnew : k.next = none → n.maps.version = k.active.version + 1 ∧ n.countdown = if cause = .stepDown then 1 else 2)
    (hold : ∀ o, k.next = some o → n.maps.version = o.maps.version ∧
      n.countdown = min o.countdown (if cause = .stepDown then 1 else 2)) :
    k.staged zones grade cause = n := by
  obtain ⟨⟨version, _, _⟩, countdown⟩ := n
  subst hz hg
  rw [← countdownOf_eq] at hnew hold
  unfold Link.staged
  cases hk : k.next with
  | none =>
    obtain ⟨hv, hc⟩ := hnew hk
    have hv' : version = k.active.version + 1 := hv
    have hc' : countdown = countdownOf cause := hc
    rw [hv', hc']
  | some o =>
    obtain ⟨hv, hc⟩ := hold o hk
    have hv' : version = o.maps.version := hv
    have hc' : countdown = min o.countdown (countdownOf cause) := hc
    rw [hv', hc']

theorem State.completePlan_of_discarded {s : State} {job : PlanJob} {zones : List ZoneMap}
    (h : ∀ k, s.link job.link = some k → ¬job.publishes zones k = true) :
    s.completePlan job zones = s.setPlanner { s.planner with engine := .idle } := by
  unfold State.completePlan
  dsimp only
  split
  · rename_i k hk
    exact if_neg (h k hk)
  · rfl

theorem State.completePlan_of_published {s : State} {job : PlanJob} {zones : List ZoneMap} {k : Link}
    (hk : s.link job.link = some k) (h : job.publishes zones k = true) :
    s.completePlan job zones =
      (s.setPlanner { s.planner with engine := .idle }).publish job.link k zones job.grade job.cause := by
  unfold State.completePlan
  dsimp only
  rw [hk]
  exact if_pos h

/-! ### Worth publishing (R131) -/

theorem codeFalls_iff {new held : ZoneMap} :
    codeFalls new held = true ↔ ∃ g : Fin 96, new.codes[g].val < held.codes[g].val := by
  simp [codeFalls]

theorem loadFalls_iff {new held : ZoneMap} :
    loadFalls new held = true ↔
      new.form = .adaptive ∧ held.form = .adaptive ∧ (∃ g : Fin 96, new.codes[g].val < held.codes[g].val) ∨
        new.rawCapacity / new.repetition < held.rawCapacity / held.repetition := by
  simp only [loadFalls, Bool.or_eq_true, Bool.and_eq_true, decide_eq_true_iff, codeFalls_iff, and_assoc]
  rfl

theorem any_zip_iff {α β : Type} {p : α → β → Bool} {as : List α} {bs : List β} :
    (as.zip bs).any (fun x => p x.1 x.2) = true ↔
      ∃ (i : Nat) (a : α) (b : β), as[i]? = some a ∧ bs[i]? = some b ∧ p a b = true := by
  simp only [List.any_eq_true, Prod.exists, List.mem_iff_getElem?, List.getElem?_zip_eq_some]
  constructor
  · rintro ⟨a, b, ⟨i, ha, hb⟩, h⟩
    exact ⟨i, a, b, ha, hb, h⟩
  · rintro ⟨i, a, b, ha, hb, h⟩
    exact ⟨a, b, ⟨i, ha, hb⟩, h⟩

/-! ### The release of a claim (R164 to R166) -/

theorem State.releaseClaim_of_idle {s : State} {f : Feed} {c : FetchClaim} (hc : s.claims.get f = some c)
    (h : ∀ job zones, s.planner.engine ≠ .waitingClaim job zones) : s.releaseClaim f = s.setClaim f none := by
  simp only [State.releaseClaim, hc]

theorem State.releaseClaim_of_waiting {s : State} {f : Feed} {c : FetchClaim} {job : PlanJob} {zones : List ZoneMap}
    (hc : s.claims.get f = some c) (h : s.planner.engine = .waitingClaim job zones) :
    s.releaseClaim f =
      if job.freedBy c ((s.setClaim f none).claimedLink c.link) then (s.setClaim f none).completePlan job zones
      else s.setClaim f none := by
  simp only [State.releaseClaim, hc, h]

theorem State.not_claimedLink {s : State} {l : LinkNo} :
    s.claimedLink l = false ↔ ∀ g d, s.claims.get g = some d → d.link ≠ l := by
  rw [← Bool.not_eq_true, State.claimedLink_iff]
  simp

/-- Settles O47. -/
theorem computedPlanWaitsOrCompletes : Obligations.ComputedPlanWaitsOrCompletes := by
  refine ⟨fun s h => exec_planComputeEnd_of_none h, fun s job zones h => ⟨fun hclaim => ?_, fun hnone => ?_⟩,
    fun s job zones => ⟨fun hgone => ?_, fun k n hk hg hgrade hworth hz hmg hnew hold => ?_⟩,
    fun k => ⟨fun n hn => ?_, fun hn => ?_⟩, fun new held capacity hcap => ?_, fun s f => ⟨State.releaseClaim_of_none,
      fun c u hc hu => ⟨fun hidle => ?_, fun job zones hwait => ?_⟩⟩⟩
  · rw [exec_planComputeEnd h, if_pos (State.claimedLink_iff.2 hclaim)]
    rfl
  · rw [exec_planComputeEnd h, State.not_claimedLink.2 hnone]
    rfl
  · refine State.completePlan_of_discarded fun k hk hpub => ?_
    obtain ⟨hg, hgrade, hworth⟩ := PlanJob.publishes_iff.1 hpub
    obtain h | h | ⟨hplan, hnot⟩ := hgone k hk
    · exact h hg
    · exact h hgrade
    · rw [hworth hplan] at hnot
      cases hnot
  · rw [State.completePlan_of_published hk (PlanJob.publishes_iff.2 ⟨hg, hgrade, hworth⟩), State.publish, Link.publish,
      Link.staged_eq hz hmg hnew hold]
    rfl
  · simp only [Link.held, hn]
  · simp only [Link.held, hn]
  · have hnat (zs : List ZoneMap) : capacity zs = (setCapacity zs : Int) := by
      rw [hcap, setCapacity]
      simp [ZoneMap.effective, Function.comp_def]
    simp only [worthPublishing, Bool.or_eq_true, any_zip_iff, loadFalls_iff, decide_eq_true_iff, hnat]
    refine or_congr Iff.rfl ?_
    omega
  · subst hu
    exact State.releaseClaim_of_idle hc hidle
  · subst hu
    rw [State.releaseClaim_of_waiting hc hwait]
    refine ⟨fun hne => if_neg fun hfreed => hne (PlanJob.freedBy_iff.1 hfreed).1, fun heq hfree => ?_,
      fun heq hgen hclaim => ?_⟩
    · refine if_pos (PlanJob.freedBy_iff.2 ⟨heq, hfree.imp_right fun hnone => ?_⟩)
      rw [← heq]
      exact State.not_claimedLink.2 hnone
    · refine if_neg fun hfreed => ?_
      obtain ⟨-, h | h⟩ := PlanJob.freedBy_iff.1 hfreed
      · exact hgen h
      · obtain ⟨g, d, hd, hlink⟩ := hclaim
        exact State.not_claimedLink.1 h g d hd (hlink.trans heq)

end Sys2Proof.Machine
end

section
/-! Chapter 7, the maps a plan computes (O48), and the plan offers of NOTCH_SET and PLAN_NOW (O49). -/
namespace Sys2Proof.Machine

/-! ### Capacities (R128, R129) -/

/-- The groups that pass a test of their number, counted in two ways. -/
theorem length_filter_range_eq (n : Nat) (p : Nat → Bool) :
    ((List.range n).filter p).length = ((List.finRange n).filter fun i => p i.val).length := by
  rw [← List.map_coe_finRange_eq_range, List.filter_map, List.length_map]
  rfl

/-- A constant summed over the groups that pass a test. -/
theorem sum_map_ite {α : Type} (l : List α) (p : α → Bool) (c : Nat) :
    (l.map fun a => if p a then 0 else c).sum = c * (l.filter fun a => !p a).length := by
  induction l with
  | nil => rfl
  | cons a rest ih =>
    rw [List.map_cons, List.sum_cons, ih, List.filter_cons]
    cases p a
    · simp only [Bool.not_false, if_true, List.length_cons, Bool.false_eq_true, if_false]
      ring
    · simp

/-- Two open codes stand for two bits in each open group (R129). -/
theorem rawCapacity_robust (m : NotchMask) : rawCapacity (robustMap m).codes = (robustMap m).rawCapacity := by
  have hcode (g : Fin 96) : 8 * loadBits (robustMap m).codes[g] = if notched m g.val then 0 else 16 := by
    have hg : (robustMap m).codes[g] = if notched m g.val then 0 else 2 := Vector.getElem_ofFn ..
    rw [hg]
    split <;> rfl
  rw [rawCapacity, funext hcode, sum_map_ite]
  show 16 * _ = 16 * openGroups m
  rw [openGroups, length_filter_range_eq]

theorem loadBits_le : ∀ c : Fin 8, loadBits c ≤ 10 := by decide

theorem loadBits_eq : ∀ c : Fin 8, loadBits c = [0, 1, 2, 3, 4, 6, 8, 10].getD c.val 0 := by decide

theorem rawCapacity_le (codes : Vector (Fin 8) 96) : rawCapacity codes ≤ 7680 := by
  have hsum := List.sum_le_card_nsmul ((List.finRange 96).map fun g => 8 * loadBits codes[g]) 80 fun x hx => by
    obtain ⟨g, -, rfl⟩ := List.mem_map.1 hx
    have := loadBits_le codes[g]
    omega
  simpa [rawCapacity] using hsum

/-! ### The map of a zone (R127 to R129) -/

/-- A map that a plan may compute for a notch mask: no load on the notched groups, its own raw capacity, and not below
the ROBUST floor. -/
structure PlannedZone (m : NotchMask) (z : ZoneMap) : Prop where
  notched : ∀ g : Fin 96, m.getLsbD g.val = true → z.codes[g].val = 0
  raw : z.rawCapacity = rawCapacity z.codes
  floor : 4 * openGroups m ≤ z.effective

theorem robustMap_planned (m : NotchMask) : PlannedZone m (robustMap m) := by
  refine ⟨fun g hg => ?_, (rawCapacity_robust m).symm, ?_⟩
  · have hcode : (robustMap m).codes[g] = if notched m g.val then 0 else 2 := Vector.getElem_ofFn ..
    rw [hcode, notched, hg]
    rfl
  · show _ ≤ 16 * openGroups m / 4
    omega

theorem planZone_planned (m : NotchMask) (margin : Nat) (z : ZoneRecord) : PlannedZone m (planZone m margin z) := by
  unfold planZone
  split
  · rename_i h
    simp only [Bool.and_eq_true, decide_eq_true_iff] at h
    obtain ⟨-, hfloor⟩ := h
    refine ⟨fun g hg => ?_, rfl, ?_⟩
    · have hcode : (adaptiveMap m margin z).codes[g] = groupCode m margin z g := Vector.getElem_ofFn ..
      rw [hcode, groupCode, notched, hg]
      rfl
    · rw [ZoneMap.effective]
      exact hfloor.trans_eq (Nat.div_one _).symm
  · exact robustMap_planned m

theorem planZones_of_adaptive {job : PlanJob} (h : job.grade = .full ∨ job.grade = .guarded)
    (channel : List ZoneRecord) :
    planZones job channel =
      channel.map (planZone job.notch (if job.grade = .guarded then job.margin + 12 else job.margin)) := by
  obtain h | h := h <;> simp [planZones, effectiveMargin, h]

theorem planZones_of_robust {job : PlanJob} (h : job.grade = .robust ∨ job.grade = .unreachable)
    (channel : List ZoneRecord) : planZones job channel = channel.map fun _ => robustMap job.notch := by
  obtain h | h := h <;> simp [planZones, h]

theorem Grade.cases_eq (g : Grade) : (g = .full ∨ g = .guarded) ∨ g = .robust ∨ g = .unreachable := by cases g <;> simp

theorem planZones_planned {job : PlanJob} {channel : List ZoneRecord} {z : ZoneMap} (hz : z ∈ planZones job channel) :
    PlannedZone job.notch z := by
  obtain h | h := Grade.cases_eq job.grade
  · rw [planZones_of_adaptive h] at hz
    obtain ⟨x, -, rfl⟩ := List.mem_map.1 hz
    exact planZone_planned ..
  · rw [planZones_of_robust h] at hz
    obtain ⟨x, -, rfl⟩ := List.mem_map.1 hz
    exact robustMap_planned _

/-- The zones of a job, one for one with the records it is computed from (R130). -/
theorem planZones_getElem? {job : PlanJob} {channel : List ZoneRecord} {i : Nat} {z : ZoneRecord}
    (hz : channel[i]? = some z) :
    (job.grade = .full ∨ job.grade = .guarded →
      (planZones job channel)[i]? =
        some (planZone job.notch (if job.grade = .guarded then job.margin + 12 else job.margin) z)) ∧
      (job.grade = .robust ∨ job.grade = .unreachable → (planZones job channel)[i]? = some (robustMap job.notch)) := by
  refine ⟨fun h => ?_, fun h => ?_⟩
  · rw [planZones_of_adaptive h, List.getElem?_map, hz]
    rfl
  · rw [planZones_of_robust h, List.getElem?_map, hz]
    rfl

theorem adaptiveCodes_eq {m : NotchMask} {margin : Nat} {z : ZoneRecord} {codes : Vector (Fin 8) 96}
    (h : ∀ g : Fin 96, codes[g] =
      if m.getLsbD g.val then 0 else loadCode (((z.groups[g].acc / 4 : Nat) : Int) - (margin : Int))) :
    adaptiveCodes m margin z = codes := by
  refine Vector.ext fun i hi => ?_
  refine (Vector.getElem_ofFn ..).trans ?_
  exact (h ⟨i, hi⟩).symm

theorem exec_planJobTake {s : State} (he : s.planner.engine = .idle) :
    exec .planJobTake s = .next s ∨
      ∃ e p, s.planner.nextPlan = some (e, p) ∧ exec .planJobTake s = .next (s.takePlan e p) := by
  cases hq : s.planner.foldQueue with
  | cons r rest => exact .inl (exec_planJobTake_of_nothing (.inr (.inl (by simp [hq]))))
  | nil =>
    cases hn : s.planner.nextPlan with
    | none =>
      refine .inl ?_
      show execPlanJobTake s = _
      simp only [execPlanJobTake, he, hq, hn]
    | some x => exact .inr ⟨x.1, x.2, rfl, exec_planJobTake_of_entry he hq hn⟩

/-- The job in hand after a taking that leaves one in hand: its zones are those of its link's records (R122). -/
theorem zones_of_planJobTake {s t : State} {job : PlanJob} {zones : List ZoneMap} {k : Link}
    (hstep : exec .planJobTake s = .next t) (he : s.planner.engine = .idle) (ht : t.planner.engine = .planning job zones)
    (hk : s.link job.link = some k) : zones = planZones job k.channel := by
  obtain hnone | ⟨e, p, hn, htake⟩ := exec_planJobTake he
  · cases hstep.symm.trans hnone
    rw [he] at ht
    cases ht
  · cases hstep.symm.trans htake
    have hp : p.engine = .idle := (Planner.nextPlan_spec hn).1.trans he
    cases hlink : s.link e.link with
    | none =>
      simp only [State.takePlan, hlink, State.setPlanner, hp] at ht
      cases ht
    | some x =>
      rw [State.takePlan_of_live hlink] at ht
      have hengine : (if (s.jobFor e x).endsAtOnce then p
          else { p with engine := .planning (s.jobFor e x) (planZones (s.jobFor e x) x.channel) }).engine =
            .planning job zones := ht
      split at hengine
      · rw [hp] at hengine
        cases hengine
      · cases hengine
        have hsame : s.link e.link = some k := hk
        cases hlink.symm.trans hsame
        rfl

/-- Settles O48. -/
theorem plansLoadGroupsByTheTable : Obligations.PlansLoadGroupsByTheTable := by
  refine ⟨fun e => ?_, fun job channel => ⟨planZones_length job channel, fun z hz => (planZones_planned hz).notched,
    fun z hz => ⟨(planZones_planned hz).raw, (planZones_planned hz).raw ▸ rawCapacity_le _⟩, fun h z hz => ?_,
    fun i hi h => (planZones_getElem? (List.getElem?_eq_getElem hi)).1 h, fun z hz => (planZones_planned hz).floor⟩,
    fun m margin n z codes hn hcodes => ?_, fun codes => ?_, fun s t job zones k hstep he ht hk => ?_⟩
  · unfold loadCode
    (repeat' split) <;> rfl
  · rw [planZones_of_robust h] at hz
    obtain ⟨x, -, rfl⟩ := List.mem_map.1 hz
    rfl
  · have hopen : openGroups m = n := hn.symm
    have hadaptive := adaptiveCodes_eq hcodes
    refine ⟨fun hn0 hvalid hfloor => ?_, fun hrobust => ?_, ?_, hopen⟩
    · rw [planZone, hopen, hadaptive, if_pos (by simp [hvalid, hfloor, Nat.pos_of_ne_zero hn0]), adaptiveMap, hadaptive]
    · rw [planZone, hopen, hadaptive]
      refine if_neg fun h => ?_
      simp only [Bool.and_eq_true, decide_eq_true_iff] at h
      obtain ⟨⟨hpos, hvalid⟩, hfloor⟩ := h
      obtain h | h | h := hrobust
      · omega
      · rw [hvalid] at h
        cases h
      · omega
    · rw [← hopen]
      rfl
  · simp only [rawCapacity, loadBits_eq]
  · rw [zones_of_planJobTake hstep he ht hk]
    exact ⟨planZones_length .., fun i z hz => planZones_getElem? hz⟩

/-! ### Urgent offers of a notch (R120, R134) -/

/-- An urgent NOTCH offer to each link of a list in turn. -/
def Planner.offerNotch (p : Planner) (ls : List LinkNo) : Planner := ls.foldl (fun q l => q.offerUrgent l .notch) p

theorem PlanEntry.recause_notch (e : PlanEntry) (l : LinkNo) : e.recause l .notch = e := by simp [PlanEntry.recause]

theorem Planner.offerUrgent_notch_of_queued {p : Planner} {l : LinkNo} (h : ∃ e ∈ p.urgent, e.link = l) :
    p.offerUrgent l .notch = p := by
  have hany : p.urgent.any (·.link = l) = true := by simpa using h
  rw [Planner.offerUrgent, if_pos hany]
  simp [PlanEntry.recause_notch]

theorem Planner.offerUrgent_notch_of_new {p : Planner} {l : LinkNo} (h : ¬∃ e ∈ p.urgent, e.link = l) :
    p.offerUrgent l .notch =
      { p with normal := p.normal.filter (·.link ≠ l), urgent := p.urgent ++ [⟨l, .notch⟩] } :=
  if_neg (by simpa using h)

/-- NOTCH offers queue the links that are not urgent already, behind the entries there, and take them out of the normal
class. -/
theorem Planner.offerNotch_eq (ls : List LinkNo) (hnodup : ls.Nodup) (p : Planner) (queued : LinkNo → Bool)
    (hqueued : ∀ l ∈ ls, queued l = true ↔ ∃ e ∈ p.urgent, e.link = l) :
    p.offerNotch ls =
      { p with
        urgent := p.urgent ++ (ls.filter fun l => !queued l).map fun l => ⟨l, .notch⟩
        normal := p.normal.filter fun e => !(ls.filter fun l => !queued l).contains e.link } := by
  induction ls generalizing p with
  | nil => simp [Planner.offerNotch]
  | cons l rest ih =>
    obtain ⟨hl, hrest⟩ := List.nodup_cons.1 hnodup
    rw [Planner.offerNotch, List.foldl_cons]
    show (p.offerUrgent l .notch).offerNotch rest = _
    by_cases hq : ∃ e ∈ p.urgent, e.link = l
    · have hb : queued l = true := (hqueued l List.mem_cons_self).2 hq
      rw [Planner.offerUrgent_notch_of_queued hq,
        ih hrest p fun m hm => hqueued m (List.mem_cons_of_mem _ hm)]
      simp [hb]
    · have hb : queued l = false := by
        rw [← Bool.not_eq_true]
        exact fun h => hq ((hqueued l List.mem_cons_self).1 h)
      rw [Planner.offerUrgent_notch_of_new hq, ih hrest]
      · simp only [hb, List.filter_filter, Bool.not_false, List.filter_cons_of_pos, List.map_cons, List.append_assoc,
          List.cons_append, List.nil_append, List.contains_cons, Bool.not_or, Planner.mk.injEq, true_and]
        refine List.filter_congr fun e _ => ?_
        rw [Bool.and_comm, decide_not]
        rfl
      · intro m hm
        have hne : m ≠ l := fun h => hl (h ▸ hm)
        rw [hqueued m (List.mem_cons_of_mem _ hm)]
        simp [hne.symm]

theorem State.forEach_offerNotch (ls : List LinkNo) (s : State) :
    (s.forEach ls fun t l => t.offerUrgent l .notch) = s.setPlanner (s.planner.offerNotch ls) := by
  induction ls generalizing s with
  | nil => rfl
  | cons l rest ih => exact ih (s.offerUrgent l .notch)

theorem maskOfWords_getLsbD (w1 w2 w3 w4 w5 w6 : Word) : ∀ j < 16,
    (maskOfWords w1 w2 w3 w4 w5 w6).getLsbD j = w1.getLsbD j ∧
      (maskOfWords w1 w2 w3 w4 w5 w6).getLsbD (16 + j) = w2.getLsbD j ∧
      (maskOfWords w1 w2 w3 w4 w5 w6).getLsbD (32 + j) = w3.getLsbD j ∧
      (maskOfWords w1 w2 w3 w4 w5 w6).getLsbD (48 + j) = w4.getLsbD j ∧
      (maskOfWords w1 w2 w3 w4 w5 w6).getLsbD (64 + j) = w5.getLsbD j ∧
      (maskOfWords w1 w2 w3 w4 w5 w6).getLsbD (80 + j) = w6.getLsbD j := by
  intro j hj
  have low {n m : Nat} {a : BitVec n} {b : BitVec m} {i : Nat} (h : i < m) : (a ++ b).getLsbD i = b.getLsbD i := by
    rw [BitVec.getLsbD_append, if_pos h]
  have high {n : Nat} {a : BitVec n} {b : Word} {i k : Nat} (h : i = 16 + k) : (a ++ b).getLsbD i = a.getLsbD k := by
    rw [BitVec.getLsbD_append, if_neg (by omega), h, Nat.add_sub_cancel_left]
  unfold maskOfWords
  refine ⟨low hj, ?_, ?_, ?_, ?_, ?_⟩
  · exact (high rfl).trans (low hj)
  · exact (high (k := 16 + j) (by omega)).trans ((high rfl).trans (low hj))
  · exact (high (k := 32 + j) (by omega)).trans ((high (k := 16 + j) (by omega)).trans ((high rfl).trans (low hj)))
  · exact (high (k := 48 + j) (by omega)).trans ((high (k := 32 + j) (by omega)).trans
      ((high (k := 16 + j) (by omega)).trans ((high rfl).trans (low hj))))
  · exact (high (k := 64 + j) (by omega)).trans ((high (k := 48 + j) (by omega)).trans
      ((high (k := 32 + j) (by omega)).trans ((high (k := 16 + j) (by omega)).trans (high rfl))))

theorem State.mem_liveLinks {s : State} {f : Feed} {l : LinkNo} :
    l ∈ s.liveLinks f ↔ ∃ k, s.link l = some k ∧ k.record.feed = f := by
  simp only [State.liveLinks, List.mem_filter, List.mem_finRange, true_and, State.liveOn]
  cases s.link l <;> simp

theorem State.liveLinks_pairwise (s : State) (f : Feed) : (s.liveLinks f).Pairwise fun a b => a.val < b.val :=
  (List.pairwise_lt_finRange 128).filter _

theorem State.liveLinks_nodup (s : State) (f : Feed) : (s.liveLinks f).Nodup := (List.nodup_finRange 128).filter _

/-- Whether a link is in the urgent class of the plan queue (R117). -/
def Planner.urgentFor (p : Planner) (l : LinkNo) : Bool := p.urgent.any (·.link = l)

theorem Planner.urgentFor_iff {p : Planner} {l : LinkNo} : p.urgentFor l = true ↔ ∃ e ∈ p.urgent, e.link = l := by
  simp [Planner.urgentFor]

section Offers

variable {feed w1 w2 w3 w4 w5 w6 w : Word} {s : State} {f : Feed} {l : LinkNo}

theorem notchSet_of_bad (h : feedOf feed = none) : notchSet feed w1 w2 w3 w4 w5 w6 s = s.refused .badParam := by
  simp only [notchSet, h]

theorem notchSet_of_good (h : feedOf feed = some f) :
    notchSet feed w1 w2 w3 w4 w5 w6 s =
      ({ s with
        notch := s.notch.set f (maskOfWords w1 w2 w3 w4 w5 w6)
        planner := s.planner.offerNotch (s.liveLinks f) }, ⟨.ok, [word (s.liveLinks f).length]⟩) := by
  simp only [notchSet, h, State.forEach_offerNotch]
  rfl

theorem planNow_of_bad (h : 127 < w.toNat) : planNow w s = s.refused .badParam := by
  simp only [planNow, finOf_eq_none h]

theorem planNow_of_free (h : w.toNat = l.val) (hl : s.link l = none) : planNow w s = s.refused .noLink := by
  simp only [planNow, finOf_eq_some l h, hl]

theorem planNow_of_live {k : Link} (h : w.toNat = l.val) (hl : s.link l = some k) :
    planNow w s = (s.setPlanner (s.planner.offerNormal l), ⟨.ok, [word (bit (s.planner.queued l))]⟩) := by
  simp only [planNow, finOf_eq_some l h, hl]
  rfl

end Offers

/-- Settles O49. -/
theorem plansAreOfferedByNotchAndCommand : Obligations.PlansAreOfferedByNotchAndCommand := by
  refine ⟨fun feed w1 w2 w3 w4 w5 w6 s ps f hps h => ⟨fun hbad => ?_, fun hf => ?_⟩,
    fun w s l h => ⟨fun hbad => ?_, fun hl hfree => ?_, fun k hl hk => ⟨fun hnew => ?_, fun hqueued => ?_⟩⟩⟩
  · subst hps
    exact congrArg Host.Outcome.next (State.manage_of_refused h (notchSet_of_bad hbad))
  · subst hps
    have hgood := notchSet_of_good (w1 := w1) (w2 := w2) (w3 := w3) (w4 := w4) (w5 := w5) (w6 := w6) (s := s) hf
    rw [Planner.offerNotch_eq _ (s.liveLinks_nodup f) _ s.planner.urgentFor fun l _ => Planner.urgentFor_iff] at hgood
    refine ⟨_, maskOfWords w1 w2 w3 w4 w5 w6, congrArg Host.Outcome.next (State.manage_of_answer h hgood), rfl,
      fun j hj => maskOfWords_getLsbD w1 w2 w3 w4 w5 w6 j hj, rfl, rfl, fun l hlive => ?_,
      fun e he => List.mem_append_left _ he, fun queued hq => ⟨_, fun l => ?_, (s.liveLinks_pairwise f).filter _, rfl, rfl⟩⟩
    · by_cases hurgent : s.planner.urgentFor l = true
      · obtain ⟨e, he, hel⟩ := Planner.urgentFor_iff.1 hurgent
        exact ⟨e, List.mem_append_left _ he, hel⟩
      · refine ⟨⟨l, .notch⟩, List.mem_append_right _ (List.mem_map_of_mem (List.mem_filter.2 ⟨?_, by simp [hurgent]⟩)), rfl⟩
        exact List.mem_filter.2 ⟨List.mem_finRange l, hlive⟩
    · rw [List.mem_filter, State.mem_liveLinks, hq, ← Planner.urgentFor_iff]
      simp
  · exact congrArg Host.Outcome.next (State.manage_of_refused h (planNow_of_bad hbad))
  · exact congrArg Host.Outcome.next (State.manage_of_refused h (planNow_of_free hl hfree))
  · have hplan := planNow_of_live hl hk
    have hno : s.planner.queued l = false := by
      rw [← Bool.not_eq_true, Planner.queued_iff]
      rintro ⟨e, he, hel⟩
      exact hnew e he hel
    rw [hno, Planner.offerNormal_of_new hnew] at hplan
    exact congrArg Host.Outcome.next (State.manage_of_answer h hplan)
  · have hplan := planNow_of_live hl hk
    rw [Planner.queued_iff.2 hqueued, Planner.offerNormal_of_queued hqueued] at hplan
    exact congrArg Host.Outcome.next (State.manage_of_answer h hplan)

end Sys2Proof.Machine
end

section
/-! The position of a feed, read at the management port and asked for on a cycle link (O52). -/
namespace Sys2Proof.Machine

/-! ### The phase (R14) -/

/-- The phase found is the greatest one that has begun. -/
theorem phaseFrom_spec (d estimate n : Nat) :
    phaseFrom d estimate n ≤ n ∧
      (phaseFrom d estimate n = 0 ∨ phaseTicks (phaseFrom d estimate n) estimate ≤ d) ∧
      ∀ u, phaseFrom d estimate n < u → u ≤ n → d < phaseTicks u estimate := by
  induction n with
  | zero => exact ⟨Nat.le_refl 0, .inl rfl, fun u hlt hle => absurd hle (by omega)⟩
  | succ n ih =>
    rw [phaseFrom]
    split
    · rename_i hbegun
      exact ⟨Nat.le_refl _, .inr hbegun, fun u hlt hle => absurd hle (by omega)⟩
    · rename_i hahead
      obtain ⟨hle, hbegun, hlast⟩ := ih
      refine ⟨by omega, hbegun, fun u hlt hu => ?_⟩
      obtain rfl | hu := Nat.of_le_succ hu |>.symm
      · exact Nat.lt_of_not_le hahead
      · exact hlast u hlt hu

/-- There is one greatest phase that has begun. -/
theorem eq_phaseFrom {d estimate n p : Nat} (hle : p ≤ n) (hbegun : p = 0 ∨ phaseTicks p estimate ≤ d)
    (hlast : ∀ u, p < u → u ≤ n → d < phaseTicks u estimate) : p = phaseFrom d estimate n := by
  obtain ⟨hle', hbegun', hlast'⟩ := phaseFrom_spec d estimate n
  obtain hlt | heq | hlt := Nat.lt_trichotomy p (phaseFrom d estimate n)
  · have := hlast _ hlt hle'
    omega
  · exact heq
  · have := hlast' _ hlt hle
    omega

theorem Mtu.phase_zone_of_invalid {m : Mtu} (h : m.originRec = none) (now : Nat) :
    m.phaseAt now = 0 ∧ m.zoneAt now = 0 := by
  simp only [Mtu.phaseAt, Mtu.zoneAt, h, and_self]

theorem Mtu.phase_zone_of_valid {m : Mtu} {o : OriginRecord} {now p z : Nat} (h : m.originRec = some o) (hle : p ≤ 255)
    (hbegun : p = 0 ∨ p * o.estimate / 256 ≤ now - o.t0)
    (hlast : ∀ u, p < u → u ≤ 255 → now - o.t0 < u * o.estimate / 256)
    (hz : z = (m.boundaries.filter fun b => b ≤ p).length) : m.phaseAt now = p ∧ m.zoneAt now = z := by
  have hphase : m.phaseAt now = p := by
    simp only [Mtu.phaseAt, h]
    exact (eq_phaseFrom hle hbegun hlast).symm
  refine ⟨hphase, ?_⟩
  simp only [Mtu.zoneAt, h, hphase]
  exact hz.symm

theorem word_slot_code (i : Option SlotNo) :
    word ((i.map Fin.val).getD 255) = match i with
      | some j => word j.val
      | none => 255 := by
  cases i <;> rfl

/-- Settles O52. -/
theorem positionIsThatOfTheMoment : Obligations.PositionIsThatOfTheMoment := by
  intro feed f tag s p hp hinvalid hvalid
  have hphase : (s.mtu.get f).phaseAt s.now = p.phase ∧ (s.mtu.get f).zoneAt s.now = p.zone := by
    cases ho : (s.mtu.get f).originRec with
    | none =>
      obtain ⟨hphase, hzone⟩ := hinvalid ho
      rw [hphase, hzone]
      exact Mtu.phase_zone_of_invalid ho s.now
    | some o =>
      obtain ⟨hle, hbegun, hlast, hzone⟩ := hvalid o ho
      exact Mtu.phase_zone_of_valid ho hle hbegun hlast hzone
  have hpos : s.position f = p := by
    rw [hp, State.position, hphase.1, hphase.2]
  refine ⟨fun h hbad => ?_, fun h hf => ?_, fun hs => ⟨_, ?_, s.tookFrame_hearing f tag _, rfl⟩⟩
  · refine congrArg Host.Outcome.next (State.manage_of_refused h ?_)
    simp only [positionRead, hbad]
  · have hread : positionRead feed s = (s, Reply.done p.words) := by simp only [positionRead, hf, hpos]
    rw [Position.words, word_slot_code] at hread
    refine ⟨periodWord p.period, fun hsmall => ?_, congrArg Host.Outcome.next (State.manage_of_reply h hread)⟩
    rw [periodWord, if_pos hsmall, word, BitVec.toNat_ofNat]
    exact Nat.mod_eq_of_lt hsmall
  · refine congrArg Host.Outcome.next ((State.takeFrame_eq hs _).trans ?_)
    rw [← hpos]
    rfl

end Sys2Proof.Machine
end

section
/-! Chapter 10, the sending side of a cycle link: the END of a frame, the choice by rank, the offers, and the bytes of
the notices (O60). -/
namespace Sys2Proof.Machine

/-! ### A frame on the line (R170, R171) -/

theorem OutFrame.symbols_eq (y : OutFrame) : y.symbols = y.lineBytes.length + 2 := by
  simp [OutFrame.symbols, OutFrame.lineBytes, OutFrame.body, bytes2]

theorem byte_flag (b : Bool) : byte (bit b) = if b then 1 else 0 := by cases b <;> rfl

theorem byte_bit (b : Bool) (n : Nat) : byte (n * bit b) = if b then byte n else 0 := by
  cases b
  · exact congrArg byte (Nat.mul_zero n)
  · exact congrArg byte (Nat.mul_one n)

/-- How a line that is free puts a frame out, by what it is given as. -/
def Clc.Lines (c : Clc) (now : Nat) (line : FrameSource → OutFrame → Transmitter) : Prop :=
  ∀ source x, line source x =
    ⟨c.transmitter.lineFree, some ⟨source, x, max now c.transmitter.lineFree + 4 * (x.lineBytes.length + 2)⟩⟩

theorem Clc.sent_eq {c : Clc} {now : Nat} {line : FrameSource → OutFrame → Transmitter} (h : c.Lines now line)
    (source : FrameSource) (x : OutFrame) : c.sent now source x = { c with transmitter := line source x } := by
  rw [h, Clc.sent, OutFrame.symbols_eq]
  rfl

/-! ### The choice by rank (R176, R179) -/

section Chosen

variable {c : Clc} {d : Nat} (hl : c.link = .up d) (hs : c.transmitter.sending = none) (now : Nat) (map : List Byte)
include hl hs

theorem Clc.chosen_of_timing {n : TimingNotice} {rest : List TimingNotice} (ht : c.timing = n :: rest) :
    c.chosen now map =
      ({ c with timing := rest, timingLost := false } : Clc).sent now .timing
        ⟨n.type, 0, if c.timingLost then 2 else 0, n.payload⟩ := by
  have hflag : byte (2 * bit c.timingLost) = if c.timingLost then 2 else 0 := byte_bit c.timingLost 2
  rw [← hflag]
  unfold Clc.chosen
  split
  · split
    · rename_i h
      cases ht.symm.trans h
      rfl
    · rename_i h
      cases ht.symm.trans h
  · rename_i hno
    exact (hno d hl hs).elim

theorem Clc.chosen_of_empty (ht : c.timing = []) : c.chosen now map = c.responseSent now map := by
  simp only [Clc.chosen, hl, hs, ht]

end Chosen

theorem Clc.responseSent_of_new {c : Clc} {y : Slot} (hy : c.slot = some y) (hb : y.begun = false) (now : Nat)
    (map : List Byte) :
    c.responseSent now map =
      ({ c with slot := some { y with begun := true }, dropped := false } : Clc).sent now .response
        ⟨y.response.type, y.tag, if c.dropped then 1 else 0, y.response.payload map⟩ := by
  rw [← byte_flag c.dropped]
  simp only [Clc.responseSent, hy]
  exact if_neg (by simp [hb])

theorem Clc.responseSent_of_begun {c : Clc} (hy : ∀ y, c.slot = some y → y.begun = true) (now : Nat) (map : List Byte) :
    c.responseSent now map = c.generalSent now := by
  unfold Clc.responseSent
  split
  · rename_i y hslot
    exact if_pos (hy y hslot)
  · rfl

theorem Clc.generalSent_of_head {c : Clc} {n : GeneralNotice} {rest : List GeneralNotice} (hg : c.general = n :: rest)
    (now : Nat) :
    c.generalSent now =
      ({ c with general := rest, generalLost := false } : Clc).sent now .general
        ⟨n.type, 0, if c.generalLost then 4 else 0, n.payload⟩ := by
  have hflag : byte (4 * bit c.generalLost) = if c.generalLost then 4 else 0 := byte_bit c.generalLost 4
  rw [← hflag]
  simp only [Clc.generalSent, hg]

section Choice

variable {s : State} {f : Feed} {c : Clc} {d : Nat} {line : FrameSource → OutFrame → Transmitter}

theorem State.chooseFrame_of_busy (hc : s.clc.get f = c) (h : c.link = .down ∨ c.transmitter.sending ≠ none) :
    s.chooseFrame f = s := by
  unfold State.chooseFrame
  dsimp only
  split
  · rename_i hl hs
    rw [hc] at hl hs
    obtain h | h := h
    · rw [h] at hl
      cases hl
    · exact absurd hs h
  · rfl

variable (hc : s.clc.get f = c) (hl : c.link = .up d) (hs : c.transmitter.sending = none)
include hc hl hs

theorem State.chooseFrame_of_timing (hline : c.Lines s.now line) {n : TimingNotice} {rest : List TimingNotice}
    (ht : c.timing = n :: rest) :
    s.chooseFrame f =
      s.setClc f { c with
        timing := rest
        timingLost := false
        transmitter := line .timing ⟨n.type, 0, if c.timingLost then 2 else 0, n.payload⟩ } := by
  rw [State.chooseFrame_eq, hc, Clc.chosen_of_timing hl hs _ _ ht,
    Clc.sent_eq (c := { c with timing := rest, timingLost := false }) hline]

theorem State.chooseFrame_of_response (hline : c.Lines s.now line) (ht : c.timing = []) {y : Slot}
    (hy : c.slot = some y) (hb : y.begun = false) :
    s.chooseFrame f =
      s.setClc f { c with
        slot := some { y with begun := true }
        dropped := false
        transmitter := line .response
          ⟨y.response.type, y.tag, if c.dropped then 1 else 0, y.response.payload (s.mapData f)⟩ } := by
  rw [State.chooseFrame_eq, hc, Clc.chosen_of_empty hl hs _ _ ht, Clc.responseSent_of_new hy hb,
    Clc.sent_eq (c := { c with slot := some { y with begun := true }, dropped := false }) hline]

theorem State.chooseFrame_of_general_queue (ht : c.timing = []) (hy : ∀ y, c.slot = some y → y.begun = true) :
    s.chooseFrame f = s.setClc f (c.generalSent s.now) := by
  rw [State.chooseFrame_eq, hc, Clc.chosen_of_empty hl hs _ _ ht, Clc.responseSent_of_begun hy]

theorem State.chooseFrame_of_general (hline : c.Lines s.now line) (ht : c.timing = [])
    (hy : ∀ y, c.slot = some y → y.begun = true) {n : GeneralNotice} {rest : List GeneralNotice}
    (hg : c.general = n :: rest) :
    s.chooseFrame f =
      s.setClc f { c with
        general := rest
        generalLost := false
        transmitter := line .general ⟨n.type, 0, if c.generalLost then 4 else 0, n.payload⟩ } := by
  rw [State.chooseFrame_of_general_queue hc hl hs ht hy, Clc.generalSent_of_head hg,
    Clc.sent_eq (c := { c with general := rest, generalLost := false }) hline]

theorem State.chooseFrame_of_nothing (ht : c.timing = []) (hy : ∀ y, c.slot = some y → y.begun = true)
    (hg : c.general = []) : s.chooseFrame f = s := by
  rw [State.chooseFrame_of_general_queue hc hl hs ht hy]
  simp only [Clc.generalSent, hg]
  rw [← hc, State.setClc_get]

end Choice

/-! ### The END of a frame sent (R164, R176) -/

section Ended

variable {s : State} {f : Feed} {o : EndOrder} {c : Clc} {x : Sending}

theorem exec_frameEndSent_early (hc : s.clc.get f = c) (hx : c.transmitter.sending = some x) (h : s.now < x.endAt) :
    exec (.frameEndSent f o) s = .next s := by
  refine congrArg Host.Outcome.next (if_neg ?_)
  rw [hc, Clc.endDue, hx]
  simpa using h

theorem exec_frameEndSent_due (hc : s.clc.get f = c) (hx : c.transmitter.sending = some x) (h : x.endAt ≤ s.now) :
    exec (.frameEndSent f o) s =
      .next (if x.source = .response then s.endResponse f o else (s.setClc f (c.ended s.now)).chooseFrame f) := by
  have hdue : c.endDue s.now = true := by simpa [Clc.endDue, hx] using h
  have hsends : c.sends .response = decide (x.source = .response) := by simp [Clc.sends, hx]
  subst hc
  refine congrArg Host.Outcome.next ((if_pos hdue).trans ?_)
  rw [hsends]
  by_cases hr : x.source = .response
  · rw [if_pos (decide_eq_true hr), if_pos hr]
  · rw [if_neg (by simpa using hr), if_neg hr]

/-- The line of a CLC after an END, with what it leaves in the slot (R170, R176). -/
def Clc.afterEnd (c : Clc) (now : Nat) (slot : Option Slot) : Clc :=
  { c with slot := slot, transmitter := ⟨now + 4, none⟩ }

theorem State.endResponse_of_no_claim (h : s.claims.get f = none) :
    s.endResponse f o = (s.setClc f ((s.clc.get f).afterEnd s.now none)).chooseFrame f := by
  unfold State.endResponse
  simp only [h]
  rfl

theorem State.endResponse_of_claim {a : FetchClaim} (h : s.claims.get f = some a) :
    (o = .releaseFirst → s.endResponse f o =
      ((s.setClc f ((s.clc.get f).afterEnd s.now none)).releaseClaim f).chooseFrame f) ∧
      (o = .chooseFirst → s.endResponse f o =
        ((s.setClc f ((s.clc.get f).afterEnd s.now none)).chooseFrame f).releaseClaim f) := by
  unfold State.endResponse
  simp only [h]
  exact ⟨fun ho => by subst ho; rfl, fun ho => by subst ho; rfl⟩

/-- An END that hands back no claim: the slot is what is left of it, and the transmitter chooses. -/
theorem exec_frameEndSent_chooses (hc : s.clc.get f = c) (hx : c.transmitter.sending = some x) (h : x.endAt ≤ s.now)
    (hclaim : s.claims.get f = none ∨ x.source ≠ .response) {slot : Option Slot}
    (hslot : slot = if x.source = .response then none else c.slot) :
    exec (.frameEndSent f o) s = .next ((s.setClc f (c.afterEnd s.now slot)).chooseFrame f) := by
  subst hslot
  rw [exec_frameEndSent_due hc hx h]
  by_cases hr : x.source = .response
  · rw [if_pos hr, if_pos hr, State.endResponse_of_no_claim (hclaim.resolve_right (not_not_intro hr)), hc]
  · rw [if_neg hr, if_neg hr]
    rfl

/-- The release of a claim and the transmitter's choice, in either order, leave the slot empty where it was. -/
theorem State.release_choose_spec {u t : State} (hslot : (u.clc.get f).slot = none)
    (ht : t = (u.releaseClaim f).chooseFrame f ∨ t = (u.chooseFrame f).releaseClaim f) :
    (t.clc.get f).slot = none ∧ t.claims = u.claims.set f none ∧
      t = { u with clc := t.clc, claims := t.claims, links := t.links, planner := t.planner } := by
  obtain rfl | rfl := ht
  · obtain ⟨v, hv, heq, hclcs⟩ := u.releaseClaim_spec f
    obtain ⟨d, hd, hadv⟩ := v.chooseFrame_spec f
    rw [hv, hd]
    refine ⟨?_, ?_, ?_⟩
    · simpa [State.setClc] using hadv.slot_none ((hclcs f).1.slot_none hslot)
    · rw [heq]
      rfl
    · rw [heq]
      rfl
  · obtain ⟨d, hd, hadv⟩ := u.chooseFrame_spec f
    rw [hd]
    obtain ⟨v, hv, heq, hclcs⟩ := (u.setClc f d).releaseClaim_spec f
    rw [hv]
    refine ⟨(hclcs f).1.slot_none (by simpa [State.setClc] using hadv.slot_none hslot), ?_, ?_⟩
    · rw [heq]
      rfl
    · rw [heq]
      rfl

end Ended

/-! ### Offers (R180 to R182) -/

theorem replaceNotice_of_first {n x : GeneralNotice} {before after : List GeneralNotice} (hx : n.coalesces x = true)
    (hbefore : ∀ y ∈ before, n.coalesces y = false) :
    replaceNotice n (before ++ x :: after) = before ++ n :: after := by
  induction before with
  | nil => simp [replaceNotice, hx]
  | cons y rest ih =>
    rw [List.cons_append, replaceNotice, hbefore y List.mem_cons_self,
      ih fun z hz => hbefore z (List.mem_cons_of_mem _ hz)]
    rfl

theorem GeneralNotice.coalesces_iff {n x : GeneralNotice} :
    n.coalesces x = true ↔ (∃ l v i k v' i' k', n = .mapNext l v i k ∧ x = .mapNext l v' i' k') ∨
      ∃ l o g w e z o' g' w' e' z', n = .linkGrade l o g w e z ∧ x = .linkGrade l o' g' w' e' z' := by
  cases n <;> cases x <;> simp [GeneralNotice.coalesces, eq_comm]

/-- The first frame after an END starts once the line has been idle for a symbol (R170). -/
theorem Clc.lines_afterEnd (c : Clc) {now : Nat} (slot : Option Slot) {next : FrameSource → OutFrame → Transmitter}
    (h : ∀ source y, next source y = ⟨now + 4, some ⟨source, y, now + 4 + 4 * (y.lineBytes.length + 2)⟩⟩) :
    (c.afterEnd now slot).Lines now next := fun source y => by
  have hmax : max now (now + 4) = now + 4 := by omega
  rw [h, Clc.afterEnd, hmax]

section Offers

variable {s : State} {f : Feed} {c : Clc} {d : Nat}

theorem State.offerTiming_of_down (hc : s.clc.get f = c) (hl : c.link = .down) (n : TimingNotice) :
    s.offerTiming f n = s.setClc f { c with timingLost := true } := by
  subst hc
  simp only [State.offerTiming, hl]

theorem State.offerTiming_of_up (hc : s.clc.get f = c) (hl : c.link = .up d) (n : TimingNotice) :
    s.offerTiming f n = (s.setClc f (c.queueTiming n)).chooseFrame f := by
  subst hc
  simp only [State.offerTiming, hl]

theorem State.offerGeneral_of_up (hc : s.clc.get f = c) (hl : c.link = .up d) (n : GeneralNotice) :
    s.offerGeneral f n = (s.setClc f (c.queueGeneral n)).chooseFrame f := by
  subst hc
  simp only [State.offerGeneral, hl]

theorem Clc.queueGeneral_of_new {n : GeneralNotice} (h : ∀ x ∈ c.general, ¬n.coalesces x = true) :
    c.queueGeneral n =
      if c.general.length < 8 then { c with general := c.general ++ [n] } else { c with generalLost := true } :=
  if_neg (by simpa using h)

theorem Clc.queueGeneral_of_same {n x : GeneralNotice} {before after : List GeneralNotice}
    (hg : c.general = before ++ x :: after) (hx : n.coalesces x = true) (hbefore : ∀ y ∈ before, ¬n.coalesces y = true) :
    c.queueGeneral n = { c with general := before ++ n :: after } := by
  rw [← replaceNotice_of_first hx (by simpa using hbefore), ← hg]
  exact if_pos (List.any_eq_true.2 ⟨x, by simp [hg], hx⟩)

end Offers

/-- Settles O60. -/
theorem frameEndFreesTheLineAndChooses : Obligations.FrameEndFreesTheLineAndChooses := by
  refine ⟨fun f o s c x d slot next hc hl hx => ⟨exec_frameEndSent_early hc hx, fun hdue hclaim hslot hnext => ?_,
      fun a hdue hr ha => ?_⟩,
    fun s f c hc => ⟨State.chooseFrame_of_busy hc, fun d line hl hs hline => ⟨fun n rest ht => ?_, fun y ht hy hb => ?_,
      fun ht hy => ⟨fun n rest hg => ?_, fun hg => ?_⟩⟩⟩,
    fun s f c n hc => ⟨fun hl => State.offerTiming_of_down hc hl n, fun d hl => ⟨fun hroom => ?_, fun hfull => ?_⟩⟩,
    fun s f c n same hc hsame => ⟨fun hl => ?_, fun d hl => ⟨fun before x after hg hx hbefore => ?_, fun hnew hroom => ?_,
      fun hnew hfull => ?_⟩⟩, fun s f tag r => rfl, ?_, rfl, rfl, rfl, rfl, rfl⟩
  · have hend := exec_frameEndSent_chooses (o := o) hc hx hdue hclaim hslot
    have hget : (s.setClc f (c.afterEnd s.now slot)).clc.get f = c.afterEnd s.now slot := by simp
    have hline := c.lines_afterEnd slot hnext
    refine ⟨fun n rest ht => ?_, fun y ht hy hb => ?_, fun ht hnone => ⟨fun n rest hg => ?_, fun hg => ?_⟩⟩
    · rw [hend, State.chooseFrame_of_timing hget hl rfl hline ht, State.setClc_setClc]
      rfl
    · rw [hend, State.chooseFrame_of_response hget hl rfl hline ht hy hb, State.setClc_setClc, State.mapData_setClc]
      rfl
    · subst hnone
      rw [hend, State.chooseFrame_of_general hget hl rfl hline ht nofun hg, State.setClc_setClc]
      rfl
    · subst hnone
      rw [hend, State.chooseFrame_of_nothing hget hl rfl ht nofun hg]
      rfl
  · have hend := exec_frameEndSent_due (o := o) hc hx hdue
    rw [if_pos hr] at hend
    obtain ⟨hfirst, hlast⟩ := State.endResponse_of_claim (o := o) ha
    rw [hc] at hfirst hlast
    obtain ⟨hslot, hclaims, heq⟩ := State.release_choose_spec (u := s.setClc f (c.afterEnd s.now none)) (f := f)
      (t := s.endResponse f o) (by simp [Clc.afterEnd]) (by
        cases o with
        | releaseFirst => exact .inl (hfirst rfl)
        | chooseFirst => exact .inr (hlast rfl))
    refine ⟨_, hend, hslot, hclaims, heq, fun u hu => ?_⟩
    subst hu
    exact ⟨hfirst, hlast⟩
  · exact State.chooseFrame_of_timing hc hl hs hline ht
  · exact State.chooseFrame_of_response hc hl hs hline ht hy hb
  · exact State.chooseFrame_of_general hc hl hs hline ht hy hg
  · exact State.chooseFrame_of_nothing hc hl hs ht hy hg
  · rw [State.offerTiming_of_up hc hl, Clc.queueTiming, if_pos (by exact hroom)]
    rfl
  · rw [State.offerTiming_of_up hc hl, Clc.queueTiming, if_neg (by exact Nat.not_lt.mpr hfull)]
    rfl
  · subst hc
    exact State.offerGeneral_of_down hl n
  · rw [State.offerGeneral_of_up hc hl, Clc.queueGeneral_of_same hg]
    · rfl
    · exact GeneralNotice.coalesces_iff.2 ((hsame x).1 hx)
    · exact fun y hy h => hbefore y hy ((hsame y).2 (GeneralNotice.coalesces_iff.1 h))
  · rw [State.offerGeneral_of_up hc hl,
      Clc.queueGeneral_of_new fun y hy h => hnew y hy ((hsame y).2 (GeneralNotice.coalesces_iff.1 h)), if_pos hroom]
    rfl
  · rw [State.offerGeneral_of_up hc hl,
      Clc.queueGeneral_of_new fun y hy h => hnew y hy ((hsame y).2 (GeneralNotice.coalesces_iff.1 h)),
      if_neg (Nat.not_lt.mpr hfull)]
    rfl
  · intro x address other count p len k down half z phase dur blocks pol w cls i c shared late g l v cause old new trigger
      escalated zone f m q reason hx hnone hsome hother hfeed hshared
    obtain rfl : x = BitVec.ofNat 8 := funext hx
    obtain rfl : address = addressByte := funext fun a => by cases a <;> [exact hnone; exact hsome _]
    obtain rfl : other = feedByte := funext fun a => by cases a <;> [exact hother; exact hfeed _]
    subst hshared
    refine ⟨rfl, ?_, ?_, ?_, fun o => rfl, ?_, rfl, rfl, ?_, ?_, ?_, rfl, rfl⟩
    · cases pol <;> rfl
    · rw [← byte_flag w.skipped]
      rfl
    · rw [← byte_flag w.skipped]
      rfl
    · rw [← byte_flag late]
      rfl
    · rw [← BitVec.ofNat_toNat]
      rfl
    · rw [← BitVec.ofNat_toNat]
      rfl
    · rw [← byte_flag escalated]
      cases trigger <;> rfl

end Sys2Proof.Machine
end

section
/-! A cycle link emptied: at its loss deadline (O59) and by FEED_RESTART (O32). -/
namespace Sys2Proof.Machine

/-! ### The CLC itself (R107, R174, R183) -/

theorem Clc.flush_eq (c : Clc) (now : Nat) : c.flush now = c.emptied now := by
  unfold Clc.flush Clc.emptied Clc.cutFrame
  cases c.transmitter.sending <;> simp [Config.symbolTicks]

theorem Clc.reportDropped_dropReport (c : Clc) : c.ReportDropped c.dropReport := by
  refine ⟨?_, fun b gap r hopen hb => ?_, fun b hnot => ?_⟩
  · unfold Clc.dropReport Clc.closeReport
    split
    · rename_i b r _
      cases b <;> rfl
    · rfl
  · rw [Clc.dropReport, Clc.closeReport_of_filling hopen hb]
    exact (Clc.buffer_refilled ..).trans (if_pos rfl)
  · unfold Clc.dropReport Clc.closeReport
    split
    · rename_i b' r hopen
      obtain ⟨⟨gap, hrep⟩, hb'⟩ := Clc.openReport_spec hopen
      have hne : b ≠ b' := fun heq => by
        subst heq
        exact hnot gap r hrep hb'
      exact (Clc.buffer_refilled c b' b .free .idle).trans (if_neg hne)
    · exact Clc.buffer_congr rfl rfl b

/-! ### The release of a claim, by what it reads (R124, R164 to R166) -/

/-- Two states that agree in what the release of a claim reads and changes. -/
structure State.SameStore (s t : State) : Prop where
  now : t.now = s.now
  clc : t.clc = s.clc
  claims : t.claims = s.claims
  planner : t.planner = s.planner
  links : t.links = s.links

theorem State.SameStore.publish {s t : State} (h : s.SameStore t) (l : LinkNo) (k : Link) (zones : List ZoneMap)
    (grade : Grade) (cause : Cause) : (s.publish l k zones grade cause).SameStore (t.publish l k zones grade cause) := by
  have hlinks : (t.setLink l (some (k.publish zones grade cause))).links =
      (s.setLink l (some (k.publish zones grade cause))).links := by
    simp only [State.setLink, h.links]
  refine ⟨?_, ?_, ?_, ?_, ?_⟩
  · simp [State.publish, h.now]
  · have hmap : (t.setLink l (some (k.publish zones grade cause))).mapData k.record.feed =
        (s.setLink l (some (k.publish zones grade cause))).mapData k.record.feed :=
      State.mapData_congr (congrArg (fun x => x.get k.record.feed) h.claims) hlinks
    exact State.offerGeneral_clc_congr (s := s.setLink l (some (k.publish zones grade cause)))
      (t := t.setLink l (some (k.publish zones grade cause))) h.clc h.now hmap _
  · simp [State.publish, h.claims]
  · simp [State.publish, h.planner]
  · simpa [State.publish] using hlinks

theorem State.SameStore.completePlan {s t : State} (h : s.SameStore t) (job : PlanJob) (zones : List ZoneMap) :
    (s.completePlan job zones).SameStore (t.completePlan job zones) := by
  have hidle : (s.setPlanner { s.planner with engine := .idle }).SameStore
      (t.setPlanner { t.planner with engine := .idle }) :=
    ⟨h.now, h.clc, h.claims, by simp only [State.setPlanner, h.planner], h.links⟩
  unfold State.completePlan
  dsimp only
  rw [State.link_congr h.links]
  split
  · split
    · exact hidle.publish ..
    · exact hidle
  · exact hidle

theorem State.SameStore.claimedLink {s t : State} (h : s.SameStore t) (l : LinkNo) :
    t.claimedLink l = s.claimedLink l := by simp only [State.claimedLink, h.claims]

theorem State.SameStore.releaseClaim {s t : State} (h : s.SameStore t) (f : Feed) :
    (s.releaseClaim f).SameStore (t.releaseClaim f) := by
  have hnone : (s.setClaim f none).SameStore (t.setClaim f none) :=
    ⟨h.now, h.clc, by simp only [State.setClaim, h.claims], h.planner, h.links⟩
  unfold State.releaseClaim
  rw [h.claims]
  split
  · exact h
  · dsimp only
    rw [h.planner]
    split
    · rw [hnone.claimedLink]
      split
      · exact hnone.completePlan ..
      · exact hnone
    · exact hnone

/-- A completed job offers at most one notice. -/
theorem State.completePlan_clc (s : State) (job : PlanJob) (zones : List ZoneMap) :
    (s.completePlan job zones).clc = s.clc ∨
      ∃ g map n, (s.completePlan job zones).clc = s.clc.set g ((s.clc.get g).generalOffered s.now map n) := by
  unfold State.completePlan
  dsimp only
  split
  · split
    · right
      rw [State.publish, State.offerGeneral_eq]
      exact ⟨_, _, _, rfl⟩
    · exact .inl rfl
  · exact .inl rfl

theorem State.releaseClaim_clc (s : State) (f : Feed) :
    (s.releaseClaim f).clc = s.clc ∨
      ∃ g map n, (s.releaseClaim f).clc = s.clc.set g ((s.clc.get g).generalOffered s.now map n) := by
  unfold State.releaseClaim
  split
  · exact .inl rfl
  · dsimp only
    split
    · split
      · exact State.completePlan_clc (s.setClaim f none) ..
      · exact .inl rfl
    · exact .inl rfl

/-- The release of a claim leaves a DOWN cycle link as it is, but for a lost notice (R182). -/
theorem State.releaseClaim_down {s : State} {g : Feed} (hl : (s.clc.get g).link = .down) (f : Feed) :
    (s.releaseClaim f).clc.get g = s.clc.get g ∨
      (s.releaseClaim f).clc.get g = { s.clc.get g with generalLost := true } := by
  obtain h | ⟨g', map, n, h⟩ := s.releaseClaim_clc f
  · exact .inl (by rw [h])
  · rw [h]
    by_cases hg : g = g'
    · subst hg
      rw [PerFeed.get_set_self, Clc.generalOffered_of_down hl]
      exact .inr rfl
    · exact .inl (PerFeed.get_set_of_ne _ hg _)

/-! ### A link flushed -/

/-- The state whose claim is released when CLC f is flushed. -/
def State.emptiedAt (s : State) (f : Feed) : State := s.setClc f ((s.clc.get f).emptied s.now)

theorem State.flushLink_eq (s : State) (f : Feed) :
    s.flushLink f =
      ((s.emptiedAt f).releaseClaim f).setClc f (((s.emptiedAt f).releaseClaim f).clc.get f).dropReport := by
  rw [State.flushLink, Clc.flush_eq]
  rfl

theorem State.flushLink_spec (s : State) (f : Feed) :
    (((s.emptiedAt f).releaseClaim f).clc.get f).ReportDropped ((s.flushLink f).clc.get f) ∧
      (∀ g, g ≠ f → (s.flushLink f).clc.get g = ((s.emptiedAt f).releaseClaim f).clc.get g) ∧
      (s.flushLink f).links = ((s.emptiedAt f).releaseClaim f).links ∧
      (s.flushLink f).planner = ((s.emptiedAt f).releaseClaim f).planner ∧
      (s.flushLink f).claims = s.claims.set f none := by
  rw [State.flushLink_eq]
  refine ⟨?_, fun g hg => PerFeed.get_set_of_ne _ hg _, rfl, rfl, ?_⟩
  · rw [State.setClc_clc, PerFeed.get_set_self]
    exact Clc.reportDropped_dropReport _
  · obtain ⟨t, ht, heq, -⟩ := (s.emptiedAt f).releaseClaim_spec f
    rw [ht, heq]
    rfl

/-- A dropped report changes nothing but the report state and the buffers. -/
theorem Clc.ReportDropped.keeps {c d : Clc} (h : c.ReportDropped d) :
    d.report = .idle ∧ d.link = c.link ∧ d.receiver = c.receiver ∧ d.transmitter = c.transmitter ∧ d.timing = c.timing ∧
      d.general = c.general ∧ d.slot = c.slot ∧ d.dropped = c.dropped ∧ d.timingLost = c.timingLost ∧
      d.generalLost = c.generalLost := by
  obtain ⟨heq, -, -⟩ := h
  rw [heq]
  exact ⟨rfl, rfl, rfl, rfl, rfl, rfl, rfl, rfl, rfl, rfl⟩

theorem Clc.emptied_sending (c : Clc) (now : Nat) : (c.emptied now).transmitter.sending = none := by
  unfold Clc.emptied
  dsimp only
  split
  · assumption
  · rfl

/-! ### The loss deadline (R174) -/

theorem State.loseLink_eq (s : State) (f : Feed) :
    s.loseLink f =
      ((s.setClc f { s.clc.get f with link := .down, receiver := .waiting }).flushLink f).offerEvent
        (.linkState f false) := rfl

theorem State.loseLink_mgp (s : State) (f : Feed) :
    (s.loseLink f).mgp = { s.mgp with events := offerEventTo s.mgp.events (.linkState f false) } := by
  have hmgp : ((s.setClc f { s.clc.get f with link := .down, receiver := .waiting }).flushLink f).mgp = s.mgp := by simp
  rw [State.loseLink_eq, State.offerEvent, hmgp]
  rfl

theorem State.emptiedAt_down (s : State) (f : Feed) :
    (s.setClc f { s.clc.get f with link := .down, receiver := .waiting }).emptiedAt f =
      { s with clc := s.clc.set f { (s.clc.get f).emptied s.now with link := .down, receiver := .waiting } } := by
  simp [State.emptiedAt, State.setClc]
  rfl

/-- Settles O59. -/
theorem lossTakesTheLinkDown : Obligations.LossTakesTheLinkDown := by
  rintro f s c rfl
  refine ⟨fun hl => ?_, fun d hl hearly => ?_, fun d hl hdue => ?_⟩
  · refine congrArg Host.Outcome.next (if_neg ?_)
    simp [Clc.lossDue, hl]
  · refine congrArg Host.Outcome.next (if_neg ?_)
    simpa [Clc.lossDue, hl] using hearly
  · have hdrop := (s.setClc f { s.clc.get f with link := .down, receiver := .waiting }).flushLink_spec f
    rw [s.emptiedAt_down] at hdrop
    generalize hu : ({ s with
      clc := s.clc.set f { (s.clc.get f).emptied s.now with link := .down, receiver := .waiting } } : State) = u at hdrop
    have hget : u.clc.get f = { (s.clc.get f).emptied s.now with link := .down, receiver := .waiting } := by
      rw [← hu, PerFeed.get_set_self]
    obtain ⟨hreport, hothers, hlinks, hplanner, hclaims⟩ := hdrop
    obtain ⟨hidle, hlink, hrecv, htrans, htiming, hgeneral, hslot, hdropped, htlost, hglost⟩ := hreport.keeps
    have hdown := State.releaseClaim_down (s := u) (g := f) (by rw [hget]) f
    generalize hx : (u.releaseClaim f).clc.get f = x at *
    have hrest : x.link = .down ∧ x.receiver = .waiting ∧ x.transmitter.sending = none ∧ x.timing = [] ∧ x.general = [] ∧
        x.slot = none ∧ x.dropped = ((s.clc.get f).dropped || (s.clc.get f).slot.isSome) ∧
        x.timingLost = ((s.clc.get f).timingLost || !(s.clc.get f).timing.isEmpty || (s.clc.get f).sends .timing) ∧
        (((s.clc.get f).emptied s.now).generalLost = true → x.generalLost = true) := by
      obtain rfl | rfl := hdown <;> rw [hget]
      · exact ⟨rfl, rfl, Clc.emptied_sending .., rfl, rfl, rfl, rfl, rfl, id⟩
      · exact ⟨rfl, rfl, Clc.emptied_sending .., rfl, rfl, rfl, rfl, rfl, fun _ => rfl⟩
    obtain ⟨h1, h2, h3, h4, h5, h6, h7, h8, h9⟩ := hrest
    refine ⟨s.loseLink f, congrArg Host.Outcome.next (if_pos ?_), hlink.trans h1, hrecv.trans h2,
      (congrArg Transmitter.sending htrans).trans h3, htiming.trans h4, hgeneral.trans h5, hslot.trans h6, hidle,
      hdropped.trans h7, htlost.trans h8, fun hlost => hglost.trans (h9 ?_), hclaims, ?_, fun hnone => ?_, fun v hv => ?_⟩
    · simpa [Clc.lossDue, hl] using hdue
    · show ((s.clc.get f).generalLost || !(s.clc.get f).general.isEmpty || (s.clc.get f).sends .general) = true
      simpa [or_assoc] using hlost
    · refine State.eq_of_fields ?_ ?_ ?_ ?_ ?_ ?_ rfl ?_ rfl rfl rfl (s.loseLink_mgp f) ?_ ?_ <;> simp [State.loseLink_eq]
    · have hkeep : u.releaseClaim f = u := State.releaseClaim_of_none (by rw [← hu]; exact hnone)
      rw [hkeep] at hlinks hplanner hothers
      refine ⟨hlinks.trans (by rw [← hu]), hplanner.trans (by rw [← hu]), fun g hg => (hothers g hg).trans ?_⟩
      rw [← hu]
      exact PerFeed.get_set_of_ne _ hg _
    · subst hv
      rw [hx]
      exact ⟨hreport, hothers, hlinks, hplanner⟩

end Sys2Proof.Machine
end

section
/-! FEED_RESTART (O32): what each of its owners makes of the state, and the link emptied at the end. -/
namespace Sys2Proof.Machine

/-! ### The claim withdrawn, at the cycle links -/

theorem State.offerTiming_offered (s : State) (f : Feed) (n : TimingNotice) (g : Feed) :
    (s.clc.get g).Offered ((s.offerTiming f n).clc.get g) := by
  obtain ⟨d, hd, hoff, -⟩ := s.offerTiming_spec f n
  rw [hd, State.setClc_clc]
  by_cases hg : g = f
  · subst hg
    rwa [PerFeed.get_set_self]
  · rw [PerFeed.get_set_of_ne _ hg]
    exact Clc.Offered.rfl' _

theorem State.serveAtFree_offered (s : State) (f : Feed) (c : ClaimRecord) (g : Feed) :
    (s.clc.get g).Offered ((s.serveAtFree f c).clc.get g) := by
  unfold State.serveAtFree
  split
  · exact (s.setPda (s.pda.enable f c)).offerTiming_offered f _ g
  · exact Clc.Offered.rfl' _

theorem State.serveList_offered (s : State) (g : Feed) : (s.clc.get g).Offered (s.serveList.clc.get g) := by
  unfold State.serveList
  cases s.pda.waiting with
  | nil => exact Clc.Offered.rfl' _
  | cons h rest =>
    dsimp only
    cases s.pda.claims.get h with
    | none => exact Clc.Offered.rfl' _
    | some c => exact (s.setPda (s.pda.leaveList h)).serveAtFree_offered h c g

theorem State.undriven_offered (s : State) (f g : Feed) : (s.clc.get g).Offered ((s.undriven f).clc.get g) := by
  unfold State.undriven
  split
  · exact Clc.Offered.rfl' _
  · cases hc : s.pda.claims.get f with
    | none =>
      simp only [State.releaseDriver, hc]
      exact Clc.Offered.rfl' _
    | some c =>
      rw [State.releaseDriver_of_claim hc]
      cases c.status with
      | holding => exact (s.setPda (s.pda.freeDriver.setClaim f none)).serveList_offered g
      | waiting => exact Clc.Offered.rfl' _
      | target => exact Clc.Offered.rfl' _

theorem State.undriven_clc {s : State} (h : s.pda.Sound) (f : Feed) : (s.undriven f).clc = s.clc := by
  unfold State.undriven
  split
  · rfl
  · rw [State.releaseDriver_eq h]
    rfl

/-! ### The sequencer and the MTU (R20, R40, R60) -/

theorem State.cancelPending_subtracts (s : State) (f : Feed) :
    (∀ n, (s.cancelPending f).stream n = { s.stream n with
      refs := (s.stream n).refs -
        if (s.csq.get f).pendingState = .edit then 0 else (s.csq.get f).pendingBank.uses (.reserved n) }) ∧
      ∀ n, (s.cancelPending f).station n = { s.station n with
        refs := (s.station n).refs -
          if (s.csq.get f).pendingState = .edit then 0 else (s.csq.get f).pendingBank.uses (.probe n) } := by
  by_cases h : (s.csq.get f).pendingState = .edit
  · rw [State.cancelPending_of_edit h]
    simp only [if_pos h, Nat.sub_zero, implies_true, and_self]
  · rw [State.cancelPending_of_counting h]
    simp only [if_neg h]
    exact s.releaseBank_subtracts (s.csq.get f).pendingBank

theorem State.restartSeq_clc (s : State) (f : Feed) : (s.restartSeq f).clc = (s.undriven f).clc := by
  have hplay : (s.endPlayback f).clc = (s.undriven f).clc := by rw [State.endPlayback_undriven]; rfl
  simp [State.restartSeq, hplay]

/-- The references of a COUNTING bank are handed back, and nothing else of the tables changes (R40). -/
theorem State.restartSeq_subtracts (s : State) (f : Feed) :
    (∀ n, (s.restartSeq f).stream n = { s.stream n with
      refs := (s.stream n).refs -
        if (s.csq.get f).pendingState = .edit then 0 else (s.csq.get f).pendingBank.uses (.reserved n) }) ∧
      ∀ n, (s.restartSeq f).station n = { s.station n with
        refs := (s.station n).refs -
          if (s.csq.get f).pendingState = .edit then 0 else (s.csq.get f).pendingBank.uses (.probe n) } := by
  have hstations : (s.endPlayback f).stations = s.stations := by simp
  have hstreams : (s.endPlayback f).streams = s.streams := by simp
  have hq : (s.endPlayback f).csq.get f = (s.csq.get f).idle := by
    rw [State.endPlayback_undriven, State.setCsq_csq, PerFeed.get_set_self]
  have hsub := (s.endPlayback f).cancelPending_subtracts f
  simp only [hq, State.stream_congr hstreams, State.station_congr hstations] at hsub
  exact hsub

theorem State.restartMains_mgp (s : State) (f : Feed) :
    (s.restartMains f).mgp = { s.mgp with
      events := if (s.mtu.get f).state = .absent then s.mgp.events
        else offerEventTo s.mgp.events (.mainsState f .absent) } := by
  unfold State.restartMains
  dsimp only
  split <;> rfl

/-- The state that FEED_RESTART hands to the cycle link: the sequencer and the MTU restarted. -/
def State.restarted (s : State) (f : Feed) : State := (s.restartSeq f).restartMains f

theorem feedRestart_of_bad {w : Word} {s : State} (h : feedOf w = none) : feedRestart w s = s.refused .badParam := by
  simp only [feedRestart, h]

theorem feedRestart_of_good {w : Word} {s : State} {f : Feed} (h : feedOf w = some f) :
    feedRestart w s = ((s.restarted f).flushLink f, ⟨.ok, []⟩) := by
  simp only [feedRestart, h]
  rfl

theorem State.restarted_clc (s : State) (f : Feed) : (s.restarted f).clc = (s.undriven f).clc := by
  rw [← State.restartSeq_clc]
  simp [State.restarted]

/-- CLC f once it is emptied: its link and receiver stand, and its slot, timing queue and report are gone. -/
theorem State.restarted_link (s : State) (f : Feed) :
    (((s.restarted f).flushLink f).clc.get f).link = (s.clc.get f).link ∧
      (((s.restarted f).flushLink f).clc.get f).receiver = (s.clc.get f).receiver ∧
      (((s.restarted f).flushLink f).clc.get f).slot = none ∧
      (((s.restarted f).flushLink f).clc.get f).timing = [] ∧
      (((s.restarted f).flushLink f).clc.get f).report = .idle := by
  obtain ⟨hreport, -⟩ := (s.restarted f).flushLink_spec f
  obtain ⟨u, hu, -, hclcs⟩ := ((s.restarted f).emptiedAt f).releaseClaim_spec f
  obtain ⟨hheard, htimed⟩ := hclcs f
  have hoff := s.undriven_offered f f
  have hempty : ((s.restarted f).emptiedAt f).clc.get f = ((s.undriven f).clc.get f).emptied (s.restarted f).now := by
    rw [State.emptiedAt, State.setClc_clc, PerFeed.get_set_self, State.restarted_clc]
  rw [hempty] at hheard htimed
  rw [hu] at hreport
  obtain ⟨hidle, hlink, hrecv, -, htiming, -, hslot, -⟩ := hreport.keeps
  exact ⟨(hlink.trans hheard.link).trans hoff.link, (hrecv.trans hheard.receiver).trans hoff.receiver,
    hslot.trans (hheard.slot_none rfl), htiming.trans (List.suffix_nil.1 htimed), hidle⟩

/-- With no claim there is nothing to release, and the general queue stays empty. -/
theorem State.restarted_of_no_claim {s : State} {f : Feed} (h : s.claims.get f = none) :
    (((s.restarted f).flushLink f).clc.get f).general = [] ∧ ((s.restarted f).flushLink f).links = s.links ∧
      ((s.restarted f).flushLink f).planner = s.planner := by
  obtain ⟨hreport, -, hlinks, hplanner, -⟩ := (s.restarted f).flushLink_spec f
  have hclaims : (s.restarted f).claims = s.claims := by simp [State.restarted]
  have hnone : ((s.restarted f).emptiedAt f).claims.get f = none := (congrArg (fun x => x.get f) hclaims).trans h
  rw [State.releaseClaim_of_none hnone] at hreport hlinks hplanner
  obtain ⟨-, -, -, -, -, hgeneral, -⟩ := hreport.keeps
  refine ⟨hgeneral.trans ?_, hlinks.trans ?_, hplanner.trans ?_⟩
  · rw [State.emptiedAt, State.setClc_clc, PerFeed.get_set_self]
    rfl
  · simp [State.emptiedAt, State.restarted]
  · simp [State.emptiedAt, State.restarted]

/-- With the driver sound the withdrawal tells no cycle link anything, so the store reads what it read before. -/
theorem State.restarted_store {s : State} (h : s.DriverSound) (f : Feed) :
    (s.emptiedAt f).SameStore ((s.restarted f).emptiedAt f) := by
  obtain ⟨hpda, -⟩ := h
  have hclc : (s.restarted f).clc = s.clc := (s.restarted_clc f).trans (State.undriven_clc hpda f)
  have hnow : (s.restarted f).now = s.now := by simp [State.restarted]
  refine ⟨hnow, ?_, ?_, ?_, ?_⟩
  · simp only [State.emptiedAt, State.setClc_clc, hclc, hnow]
  all_goals simp [State.emptiedAt, State.restarted]

/-- Settles O32. -/
theorem feedRestartRestartsTheFeed : Obligations.FeedRestartRestartsTheFeed := by
  refine fun w s f h => ⟨fun hbad => ?_, fun hf => ?_⟩
  · exact congrArg Host.Outcome.next (State.manage_of_refused h (feedRestart_of_bad hbad))
  · obtain ⟨hreport, hothers, hlinks, hplanner, hclaims⟩ := (s.restarted f).flushLink_spec f
    have hmgp : ((s.restarted f).flushLink f).mgp = { s.mgp with
        events := if (s.mtu.get f).state = .absent then s.mgp.events
          else offerEventTo s.mgp.events (.mainsState f .absent) } := by
      simp [State.restarted, State.restartMains_mgp]
    have hclaims' : ((s.restarted f).flushLink f).claims = s.claims.set f none := by
      rw [hclaims]
      simp [State.restarted]
    have hstreams : ((s.restarted f).flushLink f).streams = (s.restartSeq f).streams := by simp [State.restarted]
    have hstations : ((s.restarted f).flushLink f).stations = (s.restartSeq f).stations := by simp [State.restarted]
    obtain ⟨hlink, hrecv, hslot, htiming, hidle⟩ := s.restarted_link f
    obtain ⟨streams, stations⟩ := s.restartSeq_subtracts f
    refine ⟨((s.restarted f).flushLink f).replies 0x05 [w] .ok [],
      congrArg Host.Outcome.next (State.manage_of_answer h (feedRestart_of_good hf)), ?_, ?_, ?_, ?_, ?_, fun g hg => ?_,
      hlink, hrecv, hslot, htiming, fun hnone => State.restarted_of_no_claim hnone, hidle, ?_, ?_, ?_, fun i => ?_,
      fun m => (State.station_congr hstations m).trans (stations m), fun hsound v hv => ?_⟩
    · show ((s.restarted f).flushLink f).mtu = _
      simp [State.restarted]
      rfl
    · show ((s.restarted f).flushLink f).csq = _
      simp [State.restarted]
    · show ((s.restarted f).flushLink f).mgp.events = _
      rw [hmgp]
    · show ((s.restarted f).flushLink f).mgp.complete _ _ _ =
        ({ s.mgp with events := ((s.restarted f).flushLink f).mgp.events } : Mgp).complete _ _ _
      rw [hmgp]
    · show ((s.restarted f).flushLink f).claims.get f = none
      rw [hclaims', PerFeed.get_set_self]
    · show ((s.restarted f).flushLink f).claims.get g = _
      rw [hclaims', PerFeed.get_set_of_ne _ hg]
    · show ((s.restarted f).flushLink f).notch = _
      simp [State.restarted]
    · show ((s.restarted f).flushLink f).now = _
      simp [State.restarted]
    · show ((s.restarted f).flushLink f).pda = _
      rw [State.releaseDriver_pda]
      cases hheld : (s.csq.get f).heldClaim <;> simp [State.restarted, Pda.withdrawn, hheld]
    · have hi : ((s.restarted f).flushLink f).stream i = _ := (State.stream_congr hstreams i).trans (streams i)
      show (((s.restarted f).flushLink f).stream i).state = _ ∧ (((s.restarted f).flushLink f).stream i).refs = _
      rw [hi]
      exact ⟨rfl, rfl⟩
    · obtain rfl : v = s.emptiedAt f := hv
      have hstore := (State.restarted_store hsound f).releaseClaim f
      rw [hstore.clc] at hreport hothers
      exact ⟨hreport, hothers, hlinks.trans hstore.links, hplanner.trans hstore.planner⟩

end Sys2Proof.Machine
end

section
/-! STATION_ADD (O37) and STATION_REMOVE (O38). -/
namespace Sys2Proof.Machine

/-! ### STATION_ADD (R82, R83) -/

theorem State.holderOf_isSome {s : State} {f : Feed} {a : Nat} {n : StationIx} {m : Membership}
    (hm : (s.station n).member = some m) (hf : m.feed = f) (ha : m.address.toNat = a) : (s.holderOf f a).isSome := by
  rw [State.holderOf, List.find?_isSome]
  exact ⟨n, List.mem_finRange n, by simp [hm, hf, ha]⟩

theorem State.holderOf_none {s : State} {f : Feed} {a : Nat}
    (h : ∀ n m, (s.station n).member = some m → m.feed = f → m.address.toNat ≠ a) : s.holderOf f a = none := by
  rw [State.holderOf, List.find?_eq_none]
  intro n _
  split
  · rename_i m hm
    simpa using h n m hm
  · simp

theorem State.freeEntry_none {s : State} (h : ∀ n : StationIx, 3 ≤ n.val → (s.station n).member.isSome) :
    s.freeEntry = none := by
  rw [State.freeEntry, List.find?_eq_none]
  intro n _ hn
  simp only [Bool.and_eq_true, decide_eq_true_iff] at hn
  obtain ⟨hle, hnone⟩ := hn
  have := h n hle
  rw [hnone] at this
  cases this

theorem State.freeEntry_some {s : State} {n : StationIx} (hn : 3 ≤ n.val) (hm : (s.station n).member = none)
    (hlow : ∀ m : StationIx, 3 ≤ m.val → m.val < n.val → (s.station m).member.isSome) : s.freeEntry = some n := by
  refine find?_finRange_eq_some (by simp [hn, hm]) fun m hlt => ?_
  rw [← Bool.not_eq_true]
  intro h
  simp only [Bool.and_eq_true, decide_eq_true_iff] at h
  obtain ⟨hle, hnone⟩ := h
  have := hlow m hle hlt
  rw [hnone] at this
  cases this

section Add

variable {feed address : Word} {s : State} {f : Feed} {n : StationIx}

theorem stationAdd_of_bad (h : feedOf feed = none ∨ address.toNat = 0 ∨ 254 < address.toNat) :
    stationAdd feed address s = s.refused .badParam := by
  unfold stationAdd
  split
  · rfl
  · rename_i f hf
    rw [hf] at h
    exact if_pos (by simpa using h)

variable (hf : feedOf feed = some f) (h1 : 1 ≤ address.toNat) (h2 : address.toNat ≤ 254)
include hf h1 h2

theorem stationAdd_of_used (h : (s.holderOf f address.toNat).isSome) :
    stationAdd feed address s = s.refused .inUse := by
  obtain ⟨x, hx⟩ := Option.isSome_iff_exists.1 h
  simp only [stationAdd, hf, hx]
  exact if_neg (by simp; omega)

theorem stationAdd_of_full (h : s.holderOf f address.toNat = none) (hfull : s.freeEntry = none) :
    stationAdd feed address s = s.refused .full := by
  simp only [stationAdd, hf, h, hfull]
  exact if_neg (by simp; omega)

theorem stationAdd_of_room (h : s.holderOf f address.toNat = none) (hroom : s.freeEntry = some n) :
    stationAdd feed address s = (s.enterStation n f (byte address.toNat), ⟨.ok, [word n.val]⟩) := by
  simp only [stationAdd, hf, h, hroom]
  exact if_neg (by simp; omega)

end Add

/-- Settles O37. -/
theorem stationAddAdmitsAStation : Obligations.StationAddAdmitsAStation := by
  intro feed address s ps f hps h
  subst hps
  refine ⟨fun hbad => ?_, fun hf h1 h2 => ⟨fun ⟨n, m, hm, hfeed, ha⟩ => ?_, fun hfree => ⟨fun hfull => ?_,
    fun n hn hm hlow => ?_⟩⟩⟩
  · exact congrArg Host.Outcome.next (State.manage_of_refused h (stationAdd_of_bad hbad))
  · exact congrArg Host.Outcome.next
      (State.manage_of_refused h (stationAdd_of_used hf h1 h2 (State.holderOf_isSome hm hfeed ha)))
  · exact congrArg Host.Outcome.next
      (State.manage_of_refused h (stationAdd_of_full hf h1 h2 (State.holderOf_none hfree) (State.freeEntry_none hfull)))
  · have hadd := stationAdd_of_room hf h1 h2 (State.holderOf_none hfree) (State.freeEntry_some hn hm hlow)
    have link := s.enterStation_link hn f (byte address.toNat)
    have station := s.enterStation_station n f (byte address.toNat)
    refine ⟨_, newLink f ((s.station n).generation + 1) (s.zoneCount f) (s.notch.get f),
      congrArg Host.Outcome.next (State.manage_of_answer h hadd), rfl, (station n).trans (if_pos rfl),
      fun m hm => (station m).trans (if_neg hm), (link _).trans (if_pos (linkStation_downlink n)),
      (link _).trans (if_pos (linkStation_uplink n)), fun l hl => (link l).trans (if_neg hl), rfl, List.length_replicate,
      fun z hz => ?_, rfl, rfl, rfl, List.length_replicate, fun z hz => (List.mem_replicate.1 hz).2⟩
    obtain rfl : z = ZoneRecord.cleared := (List.mem_replicate.1 hz).2
    exact ⟨rfl, rfl, fun g => Vector.getElem_replicate ..⟩

/-! ### The fetch claims of a removed station (R165) -/

/-- A claim whose link is freed keeps the set it names. -/
def FetchClaim.bereft (c : FetchClaim) (x : Option Link) : FetchClaim :=
  match c.named, x with
  | .active, some k => { c with named := .kept k.active }
  | .next, some ⟨_, _, _, some n⟩ => { c with named := .kept n.maps }
  | _, _ => c

theorem FetchClaim.bereft_link (c : FetchClaim) (x : Option Link) : (c.bereft x).link = c.link := by
  unfold FetchClaim.bereft
  split <;> rfl

theorem State.freeLink_claims_get (s : State) (l : LinkNo) (f : Feed) :
    (s.freeLink l).claims.get f = (s.claims.get f).map fun c => if c.link = l then c.bereft (s.link l) else c := by
  unfold State.freeLink
  cases hl : s.link l with
  | none =>
    cases s.claims.get f with
    | none => rfl
    | some c => simp [FetchClaim.bereft]
  | some k =>
    rw [State.eachClaim_get]
    show (s.claims.get f).map _ = _
    refine congrArg (fun g => (s.claims.get f).map g) (funext fun c => ?_)
    unfold FetchClaim.orphaned FetchClaim.bereft
    split
    · obtain ⟨_, _, _, next⟩ := k
      cases c.named <;> cases next <;> rfl
    · rfl

/-- The claims once both links of a station are freed. -/
theorem State.vacate_claims (s : State) {n : StationIx} (hn : 3 ≤ n.val) (f : Feed) :
    (s.vacate n).claims.get f =
      (s.claims.get f).map fun c => if linkStation c.link = n then c.bereft (s.link c.link) else c := by
  have hne : uplink n ≠ downlink n := fun h => by
    have := congrArg Fin.val h
    simp [uplink, downlink] at this
  rw [State.vacate, State.freeLink_claims_get, State.freeLink_claims_get, Option.map_map]
  refine congrArg (fun g => (s.claims.get f).map g) (funext fun c => ?_)
  rw [State.freeLink_link _ (six_le_downlink hn), if_neg hne]
  have same (l : LinkNo) : ((s.setStation n { s.station n with member := none }).setPlanner
      (((s.setStation n { s.station n with member := none }).planner.forget (downlink n)).forget (uplink n))).link l =
        s.link l := State.link_congr rfl l
  simp only [Function.comp_apply, same, linkStation_eq_iff]
  by_cases hd : c.link = downlink n
  · simp [hd, FetchClaim.bereft_link, hne.symm]
  · by_cases hu : c.link = uplink n
    · simp [hu, hne]
    · simp [hd, hu]

/-! ### The notices and the report of a removed station (R85, R106) -/

theorem GeneralNotice.concerns_iff {x : GeneralNotice} {n : StationIx} :
    x.concerns n = true ↔
      (∃ l v c k, x = .mapNext l v c k ∧ linkStation l = n) ∨ (∃ l v g, x = .mapSwitched l v g ∧ linkStation l = n) ∨
        ∃ l o g w e z, x = .linkGrade l o g w e z ∧ linkStation l = n := by
  cases x <;> simp [GeneralNotice.concerns]

/-- A queue after an offer holds what it held, and at most the notice offered. -/
theorem Clc.queueGeneral_general {c : Clc} {n x : GeneralNotice} (h : x ∈ (c.queueGeneral n).general) :
    x ∈ c.general ∨ x = n := by
  unfold Clc.queueGeneral at h
  split at h
  · exact (mem_replaceNotice h).imp_right And.left
  · split at h
    · simpa using h
    · exact .inl h

theorem State.offerGeneral_general {s : State} {f : Feed} {n x : GeneralNotice}
    (h : x ∈ ((s.offerGeneral f n).clc.get f).general) : x ∈ (s.clc.get f).general ∨ x = n := by
  unfold State.offerGeneral at h
  split at h
  · exact .inl (by simpa using h)
  · obtain ⟨d, hd, hadv⟩ := (s.setClc f ((s.clc.get f).queueGeneral n)).chooseFrame_spec f
    rw [hd, State.setClc_clc, PerFeed.get_set_self] at h
    exact Clc.queueGeneral_general (by simpa using hadv.general.subset h)

/-- CLC f with the notices of a removed station taken off its general queue. -/
def Clc.purged (c : Clc) (n : StationIx) : Clc := { c with general := c.general.filter fun x => !x.concerns n }

theorem Clc.purged_general {c : Clc} {n : StationIx} {x : GeneralNotice} (h : x ∈ (c.purged n).general) :
    x.concerns n = false := by
  simpa using (List.mem_filter.1 h).2

theorem State.purgeNotices_vacate (s : State) (n : StationIx) (f : Feed) :
    (s.vacate n).purgeNotices f n = (s.vacate n).setClc f ((s.clc.get f).purged n) := by
  have hclc : (s.vacate n).clc = s.clc := by simp [State.vacate]
  rw [State.purgeNotices, hclc]
  rfl

/-- A teardown that ends no report. -/
theorem State.tearDown_of_other {s : State} {n : StationIx} {f : Feed}
    (h : ∀ b gap r, (s.clc.get f).report = .open_ b gap → (s.clc.get f).buffer b = .filling r → linkStation r.link ≠ n) :
    s.tearDown n f = (s.vacate n).setClc f ((s.clc.get f).purged n) := by
  rw [State.tearDown_eq, State.purgeNotices_vacate, State.abandonRemoved, State.setClc_clc, PerFeed.get_set_self]
  split
  · rename_i b r hopen
    obtain ⟨⟨gap, hrep⟩, hb⟩ := Clc.openReport_spec hopen
    exact if_neg (h b gap r hrep ((Clc.buffer_congr rfl rfl b).symm.trans hb))
  · rfl

/-- A teardown that abandons the open report (R106). -/
theorem State.tearDown_of_open {s : State} {n : StationIx} {f : Feed} {b : BufNo} {gap : Nat} {r : Report}
    (hopen : (s.clc.get f).report = .open_ b gap) (hb : (s.clc.get f).buffer b = .filling r)
    (hr : linkStation r.link = n) :
    s.tearDown n f =
      ((s.vacate n).setClc f { ((s.clc.get f).purged n).setBuffer b .free with report := .removed }).offerGeneral f
        (.reportAbandoned r.link r.zone .linkRemoved r.received) := by
  have hopen' : ((s.clc.get f).purged n).report = .open_ b gap := hopen
  have hb' : ((s.clc.get f).purged n).buffer b = .filling r := (Clc.buffer_congr rfl rfl b).trans hb
  rw [State.tearDown_eq, State.purgeNotices_vacate, State.abandonRemoved, State.setClc_clc, PerFeed.get_set_self,
    Clc.openReport_of_filling hopen' hb']
  dsimp only
  rw [if_pos hr, Clc.closeReport_of_filling hopen' hb', State.setClc_setClc]
  rfl

/-- What a teardown changes outside the CLC, and which CLC it changes. -/
theorem State.tearDown_vacates (s : State) (n : StationIx) (f : Feed) :
    (s.tearDown n f).stations = (s.vacate n).stations ∧ (s.tearDown n f).links = (s.vacate n).links ∧
      (s.tearDown n f).claims = (s.vacate n).claims ∧ (s.tearDown n f).planner = (s.vacate n).planner ∧
      ∃ c, (s.tearDown n f).clc = s.clc.set f c ∧ ∀ x ∈ c.general, x.concerns n = false := by
  have hclc : (s.vacate n).clc = s.clc := by simp [State.vacate]
  by_cases h : ∀ b gap r, (s.clc.get f).report = .open_ b gap → (s.clc.get f).buffer b = .filling r →
      linkStation r.link ≠ n
  · rw [State.tearDown_of_other h]
    exact ⟨rfl, rfl, rfl, rfl, _, congrArg (fun x => x.set f ((s.clc.get f).purged n)) hclc, fun x => Clc.purged_general⟩
  · push Not at h
    obtain ⟨b, gap, r, hopen, hb, hr⟩ := h
    rw [State.tearDown_of_open hopen hb hr]
    refine ⟨by simp, by simp, by simp, by simp, ?_⟩
    have hkept (x : GeneralNotice) (hx : x ∈ ((((s.vacate n).setClc f
        { ((s.clc.get f).purged n).setBuffer b .free with report := .removed }).offerGeneral f
          (.reportAbandoned r.link r.zone .linkRemoved r.received)).clc.get f).general) : x.concerns n = false := by
      obtain hold | rfl := State.offerGeneral_general hx
      · rw [State.setClc_clc, PerFeed.get_set_self] at hold
        refine Clc.purged_general (c := s.clc.get f) ?_
        rwa [← Clc.setBuffer_general (c := (s.clc.get f).purged n) (b := b) (x := .free)]
      · rfl
    obtain ⟨d, hd, -⟩ := ((s.vacate n).setClc f
      { ((s.clc.get f).purged n).setBuffer b .free with report := .removed }).offerGeneral_spec f
        (.reportAbandoned r.link r.zone .linkRemoved r.received)
    rw [hd] at hkept ⊢
    refine ⟨d, by rw [State.setClc_clc, State.setClc_clc, hclc, PerFeed.set_set], fun x hx => hkept x ?_⟩
    rwa [State.setClc_clc, PerFeed.get_set_self]

/-! ### STATION_REMOVE (R84, R85) -/

section Remove

variable {w : Word} {s : State} {n : StationIx}

theorem stationRemove_of_bad (h : w.toNat < 3 ∨ 63 < w.toNat) : stationRemove w s = s.refused .badParam := by
  unfold stationRemove
  split
  · rfl
  · rename_i n hn
    have := finOf_val hn
    exact if_pos (by omega)

variable (hn : 3 ≤ n.val) (hw : w.toNat = n.val)
include hn hw

theorem stationRemove_of_free (h : (s.station n).member = none) : stationRemove w s = s.refused .noEntry := by
  simp only [stationRemove, finOf_eq_some n hw, h]
  exact if_neg (by omega)

theorem stationRemove_of_used {m : Membership} (h : (s.station n).member = some m) (hr : 0 < (s.station n).refs) :
    stationRemove w s = s.refused .inUse := by
  simp only [stationRemove, finOf_eq_some n hw, h, if_pos hr]
  exact if_neg (by omega)

theorem stationRemove_of_unused {m : Membership} (h : (s.station n).member = some m) (hr : (s.station n).refs = 0) :
    stationRemove w s = (s.tearDown n m.feed, ⟨.ok, []⟩) := by
  simp only [stationRemove, finOf_eq_some n hw, h, hr]
  exact if_neg (by omega)

end Remove

theorem Planner.forget_both (p : Planner) (n : StationIx) :
    (p.forget (downlink n)).forget (uplink n) =
      { p with
        urgent := p.urgent.filter fun e => linkStation e.link ≠ n
        normal := p.normal.filter fun e => linkStation e.link ≠ n } := by
  have hfilter (l : List PlanEntry) : (l.filter (·.link ≠ downlink n)).filter (·.link ≠ uplink n) =
      l.filter fun e => linkStation e.link ≠ n := by
    rw [List.filter_filter]
    refine List.filter_congr fun e _ => ?_
    rw [← Bool.decide_and, decide_eq_decide, ne_eq (linkStation e.link), linkStation_eq_iff]
    tauto
  simp only [Planner.forget, hfilter]

/-- Settles O38. -/
theorem stationRemoveTearsTheStationDown : Obligations.StationRemoveTearsTheStationDown := by
  intro w s n h
  refine ⟨fun hbad => ?_, fun hn hw => ⟨fun hnone => ?_, fun hsome hr => ?_, fun m hm hr => ?_⟩,
    fun x => GeneralNotice.concerns_iff⟩
  · exact congrArg Host.Outcome.next (State.manage_of_refused h (stationRemove_of_bad hbad))
  · exact congrArg Host.Outcome.next (State.manage_of_refused h (stationRemove_of_free hn hw hnone))
  · obtain ⟨m, hm⟩ := Option.isSome_iff_exists.1 hsome
    exact congrArg Host.Outcome.next (State.manage_of_refused h (stationRemove_of_used hn hw hm hr))
  · obtain ⟨hstations, hlinks, hclaims, hplanner, c, hclc, hgeneral⟩ := s.tearDown_vacates n m.feed
    have link (l : LinkNo) : (s.tearDown n m.feed).link l = if linkStation l = n then none else s.link l :=
      (State.link_congr hlinks l).trans (s.vacate_link hn l)
    have station (i : StationIx) :
        (s.tearDown n m.feed).station i = if i = n then { s.station n with member := none } else s.station i :=
      (State.station_congr hstations i).trans (s.vacate_station n i)
    have planner := hplanner.trans ((s.vacate_planner n).trans (Planner.forget_both _ n))
    refine ⟨(s.tearDown n m.feed).replies 0x21 [w] .ok [],
      congrArg Host.Outcome.next (State.manage_of_answer h (stationRemove_of_unused hn hw hm hr)), ?_,
      (station n).trans (if_pos rfl), fun i hi => (station i).trans (if_neg hi),
      (link _).trans (if_pos (linkStation_downlink n)), (link _).trans (if_pos (linkStation_uplink n)),
      fun l hl => (link l).trans (if_neg hl), ?_, ?_, ?_, ?_, fun x hx => ?_, fun g hg => ?_, fun g => ?_,
      fun c' u hc hu => ⟨fun b gap r hopen hb hlink => ?_, fun hother => ?_⟩⟩
    · refine State.eq_of_fields ?_ ?_ ?_ ?_ rfl ?_ rfl ?_ rfl rfl rfl ?_ ?_ ?_ <;> simp [State.replies]
    · show (s.tearDown n m.feed).planner.urgent = _
      rw [planner]
    · show (s.tearDown n m.feed).planner.normal = _
      rw [planner]
    · show (s.tearDown n m.feed).planner.engine = _
      rw [planner]
    · show (s.tearDown n m.feed).planner.foldQueue = _
      rw [planner]
    · have hx' : x ∈ ((s.tearDown n m.feed).clc.get m.feed).general := hx
      rw [hclc, PerFeed.get_set_self] at hx'
      exact hgeneral x hx'
    · show (s.tearDown n m.feed).clc.get g = _
      rw [hclc, PerFeed.get_set_of_ne _ hg]
    · show (s.tearDown n m.feed).claims.get g = _
      rw [hclaims, s.vacate_claims hn]
      rfl
    · subst hc hu
      show (s.tearDown n m.feed).clc = _
      refine (congrArg State.clc
        (State.tearDown_of_open hopen (Clc.buffer_congr rfl rfl b |>.symm.trans hb) hlink)).trans ?_
      refine State.offerGeneral_clc_congr ?_ ?_ (State.mapData_congr ?_ ?_) _
      · simp [State.setClc, State.vacate]
        rfl
      · simp [State.setClc, State.vacate]
      · exact (congrArg (fun x => x.get m.feed) hclaims).symm
      · exact hlinks.symm
    · subst hc hu
      show (s.tearDown n m.feed).clc = _
      rw [State.tearDown_of_other fun b gap r hopen hb => hother b gap r hopen (Clc.buffer_congr rfl rfl b |>.trans hb)]
      simp [State.setClc, State.vacate]
      rfl

end Sys2Proof.Machine
end

section
/-! MAP_FETCH and MAP_DATA, and the switchover of a NEXT set at a beacon boundary (O53). -/
namespace Sys2Proof.Machine

/-! ### A frame whose owner only answers (R173, R175) -/

/-- The owner of a good frame offers at most notices of its feed in the state with the link heard, and then answers. -/
theorem State.execFrame_of_offered {s w : State} {f : Feed} {d : Clc} {tag : Byte} {r : Response} {i : Sys2Proof.Instr}
    {owner : State → State} (hs : (s.clc.get f).slot = none) (hi : exec i s = .next (s.takeFrame f owner))
    (ho : owner (s.hearing f) = w.respond f tag r) (hw : w.clc = (s.hearing f).clc.set f d)
    (hd : ((s.hearing f).clc.get f).Offered d) :
    ∃ t, exec i s = .next t ∧ s.TookFrame t f tag r ∧ t = w.respond f tag r :=
  ⟨_, hi.trans (by rw [State.takeFrame_eq hs owner, ho]), s.tookFrame_changed f hd.link hd.receiver hw tag r, rfl⟩

/-- The owner of a good frame only answers, having changed no CLC. -/
theorem State.execFrame_of_answer {s w : State} {f : Feed} {tag : Byte} {r : Response} {i : Sys2Proof.Instr}
    {owner : State → State} (hs : (s.clc.get f).slot = none) (hi : exec i s = .next (s.takeFrame f owner))
    (ho : owner (s.hearing f) = w.respond f tag r) (hw : w.clc = (s.hearing f).clc) :
    ∃ t, exec i s = .next t ∧ s.TookFrame t f tag r ∧ t = w.respond f tag r :=
  State.execFrame_of_offered hs hi ho (hw.trans (PerFeed.set_get ..).symm) (Clc.Offered.rfl' _)

/-! ### MAP_FETCH (R163, R164) -/

section Fetch

variable {s : State} {f : Feed} {tag link version zone : Byte} {l : LinkNo} {k : Link}

theorem State.fetch_of_no_link (h : s.linkOn f link = none) :
    s.fetch f tag link version zone = s.respond f tag (.refused .noLink) := by
  simp only [State.fetch, h, State.refuse]

theorem State.fetch_of_stale (h : s.linkOn f link = some (l, k)) (hv : k.versioned version = none) :
    s.fetch f tag link version zone =
      s.respond f tag (.refusedStale k.active.version (k.next.map (·.maps.version))) := by
  simp only [State.fetch, h, hv]

theorem State.fetch_of_bad_zone {named : ClaimedSet} (h : s.linkOn f link = some (l, k))
    (hv : k.versioned version = some named) (hz : s.zoneCount f ≤ zone.toNat) :
    s.fetch f tag link version zone = s.respond f tag (.refused .badParam) := by
  simp only [State.fetch, h, hv, if_pos hz, State.refuse]

theorem State.fetch_of_claim {named : ClaimedSet} (h : s.linkOn f link = some (l, k))
    (hv : k.versioned version = some named) (hz : zone.toNat < s.zoneCount f) :
    s.fetch f tag link version zone =
      (s.setClaim f (some ⟨l, k.record.generation, zone.toNat, named⟩)).respond f tag .mapData := by
  simp only [State.fetch, h, hv, if_neg (Nat.not_le.mpr hz)]

theorem Link.versioned_of_stale (ha : version.toNat ≠ k.active.version.toNat)
    (hn : ∀ n, k.next = some n → version.toNat ≠ n.maps.version.toNat) : k.versioned version = none := by
  unfold Link.versioned
  rw [if_neg ha, if_neg]
  simpa [Option.any_eq_true] using hn

theorem Link.versioned_of_named {named : ClaimedSet}
    (h : version.toNat = k.active.version.toNat ∧ named = .active ∨
      version.toNat ≠ k.active.version.toNat ∧ named = .next ∧
        ∃ n, k.next = some n ∧ version.toNat = n.maps.version.toNat) : k.versioned version = some named := by
  unfold Link.versioned
  obtain ⟨ha, rfl⟩ | ⟨ha, rfl, n, hn, hv⟩ := h
  · exact if_pos ha
  · rw [if_neg ha, hn]
    exact if_pos (by simpa using hv)

end Fetch

/-! ### MAP_DATA (R167) -/

theorem State.claimedSet_of_named {s : State} {c : FetchClaim} {m : MapSet}
    (h : c.named = .kept m ∨ ∃ k, s.link c.link = some k ∧
      (c.named = .active ∧ m = k.active ∨ ∃ n, c.named = .next ∧ k.next = some n ∧ m = n.maps)) :
    s.claimedSet c = some m := by
  unfold State.claimedSet
  obtain hkept | ⟨k, hk, ⟨hactive, rfl⟩ | ⟨n, hnext, hn, rfl⟩⟩ := h
  · simp [hkept]
  · simp [hactive, hk]
  · simp [hnext, hk, hn]

theorem State.mapData_of_claim {s : State} {f : Feed} {c : FetchClaim} {m : MapSet} {z : ZoneMap}
    (hc : s.claims.get f = some c) (hm : s.claimedSet c = some m) (hz : m.zones[c.zone]? = some z) :
    s.mapData f = mapDataPayload c m z := by
  simp only [State.mapData, hc, hm, hz]

theorem byte_version (v : BitVec 4) : byte v.toNat = v.setWidth 8 := by
  refine BitVec.eq_of_toNat_eq ?_
  simp [byte]

theorem byte_form (form : MapForm) : byte (formCode form) = if form = .adaptive then 0 else 1 := by cases form <;> rfl

/-- The two halves of a byte of two load codes (R167). -/
theorem byte_halves {a b : Nat} (ha : a < 16) :
    (byte (a + 16 * b)).extractLsb' 0 4 = BitVec.ofNat 4 a ∧
      (byte (a + 16 * b)).extractLsb' 4 4 = BitVec.ofNat 4 b := by
  constructor <;> refine BitVec.eq_of_toNat_eq ?_ <;>
    simp only [byte, BitVec.extractLsb'_toNat, BitVec.toNat_ofNat, Nat.shiftRight_eq_div_pow] <;> omega

theorem ZoneMap.codeBytes_get (z : ZoneMap) (i : Fin 48) {lo hi : Fin 96} (hlo : lo.val = 2 * i.val)
    (hhi : hi.val = 2 * i.val + 1) :
    z.codeBytes[i.val]? = some (byte (z.codes[lo].val + 16 * z.codes[hi].val)) := by
  simp [ZoneMap.codeBytes, hlo, hhi]

theorem mapDataPayload_head (c : FetchClaim) (m : MapSet) (z : ZoneMap) :
    (mapDataPayload c m z).take 8 =
      [BitVec.ofNat 8 c.link.val, m.version.setWidth 8, BitVec.ofNat 8 (gradeCode m.grade), BitVec.ofNat 8 c.zone,
        if z.form = .adaptive then 0 else 1, BitVec.ofNat 8 z.repetition,
        BitVec.ofNat 8 (z.rawCapacity / 256), BitVec.ofNat 8 z.rawCapacity] := by
  rw [← byte_version, ← byte_form]
  exact List.take_left' rfl

theorem mapDataPayload_code (c : FetchClaim) (m : MapSet) (z : ZoneMap) (i : Fin 48) :
    (mapDataPayload c m z)[8 + i.val]? = z.codeBytes[i.val]? := by
  rw [mapDataPayload, List.getElem?_append_right (Nat.le_add_right 8 _)]
  exact congrArg (z.codeBytes[·]?) (Nat.add_sub_cancel_left 8 _)

/-! ### The countdown and the switchover (R159, R160) -/

theorem PerFeed.ext_get {α : Type} {t u : PerFeed α} (h : ∀ f, t.get f = u.get f) : t = u := by
  have ha := h .a
  have hb := h .b
  have hc := h .c
  cases t
  cases u
  simp_all [PerFeed.get]

theorem State.countLink_of_free {s : State} {l : LinkNo} (h : s.link l = none) : s.countLink l = s := by
  simp only [State.countLink, h]

theorem State.countLink_of_settled {s : State} {l : LinkNo} {k : Link} (h : s.link l = some k) (hn : k.next = none) :
    s.countLink l = s := by
  simp only [State.countLink, h, hn]

theorem State.countLink_of_next {s : State} {l : LinkNo} {k : Link} {n : NextSet} (h : s.link l = some k)
    (hn : k.next = some n) :
    s.countLink l = if n.countdown ≤ 1 then s.switchLink l k n
      else s.setLink l (some { k with next := some { n with countdown := n.countdown - 1 } }) := by
  simp only [State.countLink, h, hn]

/-- Settles O53. -/
theorem mapFetchClaimsASet : Obligations.MapFetchClaimsASet := by
  refine ⟨?_, ?_, fun s l => ⟨State.countLink_of_free, fun k hk => ⟨State.countLink_of_settled hk, fun n hn =>
    ⟨fun hcount => ?_, fun hcount claims hclaims => ?_⟩⟩⟩⟩
  · rintro f tag link version zone s _ hs rfl
    have linkOn : (s.hearing f).linkOn f link = s.linkOn f link := State.linkOn_congr rfl f link
    have zoneCount : (s.hearing f).zoneCount f = s.zoneCount f := State.zoneCount_congr rfl f
    refine ⟨fun hnone => ?_, fun l k hk => ⟨fun ha hn => ?_, fun named hnamed => ⟨fun hz => ?_, fun hz => ?_⟩⟩⟩
    · exact State.execFrame_of_answer hs rfl (State.fetch_of_no_link (linkOn.trans hnone)) rfl
    · exact State.execFrame_of_answer hs rfl
        (State.fetch_of_stale (linkOn.trans hk) (Link.versioned_of_stale ha hn)) rfl
    · exact State.execFrame_of_answer hs rfl
        (State.fetch_of_bad_zone (linkOn.trans hk) (Link.versioned_of_named hnamed) (zoneCount.trans_le hz)) rfl
    · exact State.execFrame_of_answer hs rfl
        (State.fetch_of_claim (linkOn.trans hk) (Link.versioned_of_named hnamed) (hz.trans_eq zoneCount.symm)) rfl
  · intro s f c m z hc hm hz
    rw [State.mapData_of_claim hc (State.claimedSet_of_named hm) hz]
    refine ⟨by simp [mapDataPayload, bytes2, ZoneMap.codeBytes], mapDataPayload_head c m z, fun i lo hi hlo hhi =>
      ⟨_, (mapDataPayload_code c m z i).trans (z.codeBytes_get i hlo hhi), byte_halves (by omega)⟩⟩
  · rw [State.countLink_of_next hk hn, if_neg (Nat.not_le.mpr hcount)]
    rfl
  · have heach : claims = (s.eachClaim (·.switched l k.active)).claims := by
      refine PerFeed.ext_get fun f => (hclaims f).trans ?_
      rw [State.eachClaim_get]
      refine congrArg (Option.map · _) (funext fun c => ?_)
      obtain ⟨_, _, _, named⟩ := c
      cases named <;> rfl
    rw [State.countLink_of_next hk hn, if_pos hcount, heach]
    rfl

end Sys2Proof.Machine
end

section
/-! DELIVERY_REPORT: the tally, the evaluation and the answer (O54). -/
namespace Sys2Proof.Machine

/-! ### What an evaluation leaves behind (R149 to R151) -/

/-- The state of a grade change before its notice is offered: the streams and the plan queue have followed it. -/
def State.regraded (s : State) (l : LinkNo) (old : LinkRecord) : State :=
  (s.streamsFollow l old.grade old.judge.grade).offerUrgent l (changeCause old.grade old.judge.grade)

theorem State.announceGrade_eq (s : State) (l : LinkNo) (old : LinkRecord) (trigger : Trigger) (zone : Option Nat) :
    s.announceGrade l old trigger zone =
      ((s.regraded l old).offerGeneral old.feed
        (.linkGrade l old.grade old.judge.grade trigger old.judge.escalated zone)).offerEvent
          (.linkGrade l old.grade old.judge.grade) := rfl

section Announce

variable (s : State) (l : LinkNo) (old : LinkRecord) (trigger : Trigger) (zone : Option Nat)

theorem State.announceGrade_planner : (s.announceGrade l old trigger zone).planner =
    s.planner.offerUrgent l (changeCause old.grade old.judge.grade) := by
  simp [State.announceGrade, State.offerUrgent]

theorem State.announceGrade_events : (s.announceGrade l old trigger zone).mgp.events =
    offerEventTo s.mgp.events (.linkGrade l old.grade old.judge.grade) := by
  simp [State.announceGrade, State.offerEvent]

theorem State.announceGrade_clc : ∃ d, (s.announceGrade l old trigger zone).clc = s.clc.set old.feed d ∧
    (s.clc.get old.feed).Offered d := by
  have hclc : (s.regraded l old).clc = s.clc := by simp [State.regraded]
  obtain ⟨d, hd, hoffered, -⟩ := (s.regraded l old).offerGeneral_spec old.feed
    (.linkGrade l old.grade old.judge.grade trigger old.judge.escalated zone)
  rw [State.announceGrade_eq, hd]
  exact ⟨d, congrArg (·.set old.feed d) hclc, hclc ▸ hoffered⟩

end Announce

section Evaluation

variable {s : State} {l : LinkNo} {k : Link} {trigger : Trigger} {zone : Option Nat}

theorem State.evaluate_links : (s.evaluate l k trigger zone).links =
    s.links.set l.val (some { k with record := k.record.evaluated }) l.isLt := by
  by_cases h : k.record.judge.grade = k.record.grade
  · rw [State.evaluate_of_kept h]
    rfl
  · rw [State.evaluate_of_changed h, (State.announceGrade_frame ..).2.2.2.2.2.1]
    rfl

theorem State.evaluate_clc : ∃ d, (s.evaluate l k trigger zone).clc = s.clc.set k.record.feed d ∧
    (s.clc.get k.record.feed).Offered d := by
  by_cases h : k.record.judge.grade = k.record.grade
  · rw [State.evaluate_of_kept h]
    exact ⟨_, (PerFeed.set_get ..).symm, Clc.Offered.rfl' _⟩
  · rw [State.evaluate_of_changed h]
    exact (s.setRecord l k k.record.evaluated).announceGrade_clc l k.record trigger zone

end Evaluation

/-- The links of a state decide what stands at one link number. -/
theorem State.link_of_links_set {s t : State} {l : LinkNo} {x : Option Link} (hl : 6 ≤ l.val)
    (h : t.links = s.links.set l.val x l.isLt) (m : LinkNo) : t.link m = if m = l then x else s.link m :=
  (State.link_congr (s := s.setLink l x) h m).trans (s.link_setLink hl m x)

theorem Planner.mem_offerUrgent (p : Planner) (l : LinkNo) {cause : Cause} (h : cause ≠ .notch) :
    ∃ e ∈ (p.offerUrgent l cause).urgent, e.link = l ∧ e.cause = cause := by
  by_cases hl : ∃ e ∈ p.urgent, e.link = l
  · obtain ⟨e, he, hel⟩ := id hl
    rw [Planner.offerUrgent_of_urgent hl]
    exact ⟨⟨l, cause⟩, List.mem_map.2 ⟨e, he, if_pos ⟨hel, h⟩⟩, rfl, rfl⟩
  · rw [Planner.offerUrgent_of_not_urgent (by simpa using hl)]
    exact ⟨⟨l, cause⟩, by simp, rfl, rfl⟩

theorem changeCause_ne_notch (old new : Grade) : changeCause old new ≠ .notch := by
  unfold changeCause
  split <;> nofun

@[simp] theorem State.hearing_pda (s : State) (f : Feed) : (s.hearing f).pda = s.pda := rfl
@[simp] theorem State.hearing_streams (s : State) (f : Feed) : (s.hearing f).streams = s.streams := rfl
@[simp] theorem State.hearing_events (s : State) (f : Feed) : (s.hearing f).mgp.events = s.eventsHeard f := rfl

/-! ### DELIVERY_REPORT at its owner (R141, R142) -/

theorem evaluationSpan_eq (g : Grade) : evaluationSpan g = if g = .unreachable then 32 else 256 := by cases g <;> rfl

theorem LinkRecord.tallies_iff {r : LinkRecord} {probe : Bool} :
    r.tallies probe = true ↔ r.grade ≠ .unreachable ∨ probe = true := by
  simp [LinkRecord.tallies]

section Deliver

variable {s : State} {f : Feed} {tag link zone : Byte} {ok failed : Word} {flags : Byte} {l : LinkNo} {k : Link}

theorem State.deliver_of_no_link (h : s.linkOn f link = none) :
    s.deliver f tag link zone ok failed flags = s.respond f tag (.refused .noLink) := by
  simp only [State.deliver, h, State.refuse]

theorem State.deliver_of_bad (h : s.linkOn f link = some (l, k))
    (hbad : s.zoneCount f ≤ zone.toNat ∨ 1023 < ok.toNat ∨ 1023 < failed.toNat) :
    s.deliver f tag link zone ok failed flags = s.respond f tag (.refused .badParam) := by
  simp only [State.deliver, h]
  exact if_pos (by simpa [or_assoc] using hbad)

variable (h : s.linkOn f link = some (l, k)) (hz : zone.toNat < s.zoneCount f) (hok : ok.toNat ≤ 1023)
  (hfailed : failed.toNat ≤ 1023)
include h hz hok hfailed

theorem State.deliver_of_good : s.deliver f tag link zone ok failed flags =
    if k.record.tallies (flags.getLsbD 0) then
      let t := s.tallyReport l k zone.toNat ok.toNat failed.toNat
      t.respond f tag (.acceptedDelivery (t.gradeOf l) true)
    else s.respond f tag (.acceptedDelivery k.record.grade false) := by
  simp only [State.deliver, h]
  refine if_neg ?_
  simp only [Bool.or_eq_true, decide_eq_true_eq]
  omega

theorem State.deliver_of_unheard (hk : k.record.grade = .unreachable) (hflags : flags.getLsbD 0 = false) :
    s.deliver f tag link zone ok failed flags = s.respond f tag (.acceptedDelivery .unreachable false) := by
  rw [State.deliver_of_good h hz hok hfailed, if_neg, hk]
  rw [LinkRecord.tallies_iff, hk, hflags]
  decide

theorem State.deliver_of_tallied {t : State} {g : Grade}
    (hk : k.record.grade ≠ .unreachable ∨ flags.getLsbD 0 = true)
    (ht : s.tallyReport l k zone.toNat ok.toNat failed.toNat = t) (hg : t.gradeOf l = g) :
    s.deliver f tag link zone ok failed flags = t.respond f tag (.acceptedDelivery g true) := by
  rw [State.deliver_of_good h hz hok hfailed, if_pos (LinkRecord.tallies_iff.2 hk), ht, ← hg]

end Deliver

section Tally

variable {s : State} {l : LinkNo} {k : Link} {zone ok failed : Nat} {r : LinkRecord}

theorem State.tallyReport_of_below (hr : r = k.record.tally ok failed)
    (h : r.ok + r.failed < if r.grade = .unreachable then 32 else 256) :
    s.tallyReport l k zone ok failed = s.setRecord l k r := by
  subst hr
  exact if_neg (Nat.not_le.mpr (h.trans_eq (evaluationSpan_eq _).symm))

theorem State.tallyReport_of_reached (hr : r = k.record.tally ok failed)
    (h : (if r.grade = .unreachable then 32 else 256) ≤ r.ok + r.failed) :
    s.tallyReport l k zone ok failed = s.evaluate l { k with record := r } .report (some zone) := by
  subst hr
  exact if_pos ((evaluationSpan_eq _).trans_le h)

end Tally

theorem exec_deliveryReport (f : Feed) (tag link zone : Byte) (ok failed : Word) (flags : Byte) (s : State) :
    exec (.deliveryReport f tag link zone ok failed flags) s =
      .next (s.takeFrame f fun t => t.deliver f tag link zone ok failed flags) := rfl

theorem State.gradeOf_of_link {s : State} {l : LinkNo} {k : Link} (h : s.link l = some k) :
    s.gradeOf l = k.record.grade := by
  simp only [State.gradeOf, h]

/-- Settles O54. -/
theorem deliveryReportIsTalliedAndEvaluated : Obligations.DeliveryReportIsTalliedAndEvaluated := by
  intro f tag link zone ok failed flags s hs
  have linkOn : (s.hearing f).linkOn f link = s.linkOn f link := State.linkOn_congr rfl f link
  have zoneCount : (s.hearing f).zoneCount f = s.zoneCount f := State.zoneCount_congr rfl f
  refine ⟨fun hnone => ?_, fun l k hk => ⟨fun hbad => ?_, fun hz hok hfailed => ⟨fun hg hflags => ?_, ?_⟩⟩⟩
  · exact State.execFrame_of_answer hs rfl (State.deliver_of_no_link (linkOn.trans hnone)) rfl
  · exact State.execFrame_of_answer hs rfl (State.deliver_of_bad (linkOn.trans hk) (by rwa [zoneCount])) rfl
  · exact State.execFrame_of_answer hs rfl
      (State.deliver_of_unheard (linkOn.trans hk) (hz.trans_eq zoneCount.symm) hok hfailed hg hflags) rfl
  · intro r hheard hr
    obtain ⟨hlink, hfeed⟩ := State.linkOn_spec hk
    have h6 := State.six_le_of_link hlink
    have hz' := hz.trans_eq zoneCount.symm
    by_cases hspan : r.ok + r.failed < if r.grade = .unreachable then 32 else 256
    · have links := State.link_of_links_set (s := s) (t := (s.hearing f).setRecord l k r) h6 rfl
      obtain ⟨t, hexec, htook, rfl⟩ := State.execFrame_of_answer hs (exec_deliveryReport f tag link zone ok failed flags s)
        (State.deliver_of_tallied (linkOn.trans hk) hz' hok hfailed hheard (State.tallyReport_of_below hr hspan)
          (State.gradeOf_of_link ((links l).trans (if_pos rfl)))) rfl
      refine ⟨_, hexec, fun m hm => ?_, by simp, by simp, by simp, by simp, by simp, fun _ =>
        ⟨htook, ?_, by simp, by simp, by simp, rfl⟩, fun h => absurd h (Nat.not_le.mpr hspan)⟩
      · exact (State.link_congr (by simp) m).trans ((links m).trans (if_neg hm))
      · exact (State.link_congr (by simp) l).trans ((links l).trans (if_pos rfl))
    · have hspan' := Nat.not_lt.mp hspan
      have hreport : r.feed = f := (congrArg LinkRecord.feed hr).trans hfeed
      have links := State.link_of_links_set (s := s) h6 (State.evaluate_links (s := s.hearing f) (l := l)
        (k := { k with record := r }) (trigger := .report) (zone := some zone.toNat))
      obtain ⟨d, hd, hoffered⟩ := State.evaluate_clc (s := s.hearing f) (l := l) (k := { k with record := r })
        (trigger := .report) (zone := some zone.toNat)
      rw [hreport] at hd hoffered
      obtain ⟨t, hexec, htook, rfl⟩ := State.execFrame_of_offered hs (exec_deliveryReport f tag link zone ok failed flags s)
        (State.deliver_of_tallied (linkOn.trans hk) hz' hok hfailed hheard (State.tallyReport_of_reached hr hspan')
          (State.gradeOf_of_link ((links l).trans (if_pos rfl)))) hd hoffered
      refine ⟨_, hexec, fun m hm => ?_, by simp, by simp, by simp, by simp, by simp, fun h => absurd h hspan, fun _ =>
        ⟨htook, ?_, fun hkept => ?_, fun hchanged => ?_, rfl⟩⟩
      · exact (State.link_congr (by simp) m).trans ((links m).trans (if_neg hm))
      · exact (State.link_congr (by simp) l).trans ((links l).trans (if_pos rfl))
      · rw [State.evaluate_of_kept (k := { k with record := r }) hkept]
        exact ⟨by simp, by simp⟩
      · rw [State.evaluate_of_changed (k := { k with record := r }) hchanged]
        refine ⟨?_, ?_⟩
        · simp only [State.respond_frame, State.announceGrade_planner, State.setRecord_frame]
          exact Planner.mem_offerUrgent _ l (changeCause_ne_notch _ _)
        · simp only [State.respond_frame, State.announceGrade_events, State.setRecord_frame]
          rfl

end Sys2Proof.Machine
end

section
/-! Good frames: the owner each is handed to, BAD_FRAME, the occupied slot, and the responses (O56). -/
namespace Sys2Proof.Machine

/-! ### Dispatch (R175, R177) -/

/-- No branch of the dispatch but those that refuse is met by a type and length that are not in the table. -/
theorem State.dispatchFrame_of_unknown {type : Byte} {payload : List Byte}
    (h : frameKnown type.toNat payload.length = false) (s : State) (f : Feed) (tag : Byte) :
    s.dispatchFrame f tag type payload = s.respond f tag (.refused .badFrame) := by
  have ne {t : Byte} (ht : frameKnown t.toNat payload.length = true) : type ≠ t := by
    rintro rfl
    exact Bool.false_ne_true (h.symm.trans ht)
  unfold State.dispatchFrame
  split
  · exact (if_neg (ne rfl)).trans (if_neg (ne rfl))
  · exact if_neg (ne rfl)
  · exact if_neg (ne rfl)
  · exact if_neg (ne rfl)
  · exact if_neg (ne rfl)
  · exact if_neg (ne rfl)
  · rfl

theorem State.takeFrame_of_occupied_eq {s : State} {f : Feed} (h : (s.clc.get f).slot ≠ none)
    (owner : State → State) :
    s.takeFrame f owner = { s with
      clc := s.clc.set f { s.clc.get f with link := .up (s.now + 100000), receiver := .waiting, dropped := true }
      mgp := { s.mgp with events := s.eventsHeard f } } := by
  rw [State.takeFrame_of_occupied h, State.heardFrame_eq]
  simp [State.markDropped, State.setClc, Config.lossTicks]

theorem exec_frameDiscarded_occupied {s : State} {f : Feed} (h : (s.clc.get f).slot ≠ none) (owner : State → State) :
    exec (.frameDiscarded f .slotOccupied) s = .next (s.takeFrame f owner) := by
  obtain ⟨y, hy⟩ := Option.ne_none_iff_exists'.1 h
  rw [State.takeFrame_of_occupied h]
  show Host.Outcome.next (match (s.clc.get f).slot with
    | some _ => (s.heardFrame f).markDropped f
    | none => s) = _
  rw [hy]

theorem State.onlyLineOf_respond (s : State) (f : Feed) (tag : Byte) (r : Response) :
    s.OnlyLineOf ((s.hearing f).respond f tag r) f := by
  obtain ⟨d, hd, -⟩ := (s.hearing f).respond_spec f tag r
  rw [hd]
  rfl

theorem Position.payload_eq (p : Position) :
    p.payload = [byte (mainsCode p.mains), byte (p.period / 65536), byte (p.period / 256), byte p.period,
      byte (seqCode p.seq), byte (p.beaconCount.toNat / 256), byte p.beaconCount.toNat, byte p.halfIndex,
      byte p.phase, byte p.zone,
      match p.window with
        | some i => byte i.val
        | none => 255] := by
  unfold Position.payload
  cases p.window <;> rfl

/-- Settles O56. -/
theorem goodFramesAreTakenRefusedOrDropped : Obligations.GoodFramesAreTakenRefusedOrDropped := by
  refine ⟨fun f tag s => ⟨fun _ _ _ => rfl, fun _ _ _ _ => rfl, fun _ _ _ _ _ _ _ _ _ => rfl, rfl,
    fun _ _ _ _ _ _ _ => rfl, fun _ => rfl, rfl, fun type payload hs hunknown => ?_, ?_⟩, ?_, ?_, rfl, rfl, rfl, rfl⟩
  · obtain ⟨t, hexec, htook, rfl⟩ := State.execFrame_of_answer (i := .unknownFrame f tag type payload)
      (owner := fun t => t.dispatchFrame f tag type payload) hs rfl
      (State.dispatchFrame_of_unknown hunknown (s.hearing f) f tag) rfl
    obtain ⟨hreport, hbuffer⟩ := (s.hearing f).respond_keeps_report f tag (.refused .badFrame)
    exact ⟨_, hexec, htook, rfl, hreport.trans (s.hearing_report f), fun b => (hbuffer b).trans (s.hearing_buffer f b)⟩
  · rintro type payload _ rfl hoccupied
    have hdropped := exec_frameDiscarded_occupied hoccupied fun t => t.dispatchFrame f tag type payload
    exact ⟨hdropped.symm, hdropped.trans (congrArg Host.Outcome.next (State.takeFrame_of_occupied_eq hoccupied _))⟩
  · rintro s _ f tag r rfl
    exact ⟨s.tookFrame_hearing f tag r, s.onlyLineOf_respond f tag r⟩
  · intro data x g tallied n c v next l z p hx
    obtain rfl : x = byte := funext hx
    refine ⟨rfl, ?_, rfl, rfl, rfl, ?_, rfl, ?_, rfl⟩
    · cases tallied <;> rfl
    · have hnext : byte ((next.map BitVec.toNat).getD 255) = (next.map fun w => w.setWidth 8).getD 255 := by
        cases next with
        | none => rfl
        | some w => exact byte_version w
      show (_, [_, byte v.toNat, byte ((next.map BitVec.toNat).getD 255)]) = _
      rw [byte_version, hnext]
      rfl
    · exact congrArg (Prod.mk 0x24) p.payload_eq

end Sys2Proof.Machine
end

section
/-! The receiver: code groups, the collecting of a frame, its CRC and its judging (O58). -/
namespace Sys2Proof.Machine

/-! ### The deadline and the receiver of a link (R170, R174) -/

section Receiver

variable (s : State) (f : Feed)

theorem State.setReceiver_get (r : Receiver) :
    (s.setReceiver f r).clc.get f = { s.clc.get f with receiver := r } := PerFeed.get_set_self ..

theorem State.setReceiver_setReceiver (r q : Receiver) :
    (s.setReceiver f r).setReceiver f q = s.setReceiver f q := by
  rw [State.setReceiver, State.setReceiver_get, State.setReceiver, State.setClc_setClc]
  rfl

theorem State.setReceiver_self {r : Receiver} (h : (s.clc.get f).receiver = r) : s.setReceiver f r = s := by
  subst h
  exact s.setClc_get f

variable {s f}

theorem State.validSymbol_of_down (h : (s.clc.get f).link = .down) : s.validSymbol f = s := by
  simp only [State.validSymbol, h]

theorem State.validSymbol_of_up {d : Nat} (h : (s.clc.get f).link = .up d) :
    s.validSymbol f = s.setClc f { s.clc.get f with link := .up (s.now + Config.lossTicks) } := by
  simp only [State.validSymbol, h]

variable (s f)

theorem State.validSymbol_receiver : ((s.validSymbol f).clc.get f).receiver = (s.clc.get f).receiver := by
  cases h : (s.clc.get f).link with
  | down => rw [State.validSymbol_of_down h]
  | up d => simp [State.validSymbol_of_up h]

theorem State.validSymbol_setReceiver (r : Receiver) :
    (s.setReceiver f r).validSymbol f = (s.validSymbol f).setReceiver f r := by
  have hlink : ((s.setReceiver f r).clc.get f).link = (s.clc.get f).link := by rw [State.setReceiver_get]
  cases h : (s.clc.get f).link with
  | down => rw [State.validSymbol_of_down h, State.validSymbol_of_down (hlink.trans h)]
  | up d =>
    rw [State.validSymbol_of_up h, State.validSymbol_of_up (hlink.trans h)]
    simp [State.setReceiver, State.setClc]

theorem State.validSymbol_validSymbol : (s.validSymbol f).validSymbol f = s.validSymbol f := by
  cases h : (s.clc.get f).link with
  | down => rw [State.validSymbol_of_down h, State.validSymbol_of_down h]
  | up d =>
    rw [State.validSymbol_of_up h, State.validSymbol_of_up (d := s.now + Config.lossTicks) (by simp)]
    simp [State.setClc]

theorem State.heardFrame_setReceiver (r : Receiver) : (s.setReceiver f r).heardFrame f = s.heardFrame f := by
  rw [State.heardFrame_eq, State.heardFrame_eq]
  simp [State.setReceiver, State.setClc, State.eventsHeard]

theorem State.heardFrame_validSymbol : (s.validSymbol f).heardFrame f = s.heardFrame f := by
  cases h : (s.clc.get f).link with
  | down => rw [State.validSymbol_of_down h]
  | up d =>
    rw [State.validSymbol_of_up h, State.heardFrame_eq, State.heardFrame_eq]
    simp [State.setClc, State.eventsHeard, h]

end Receiver

/-! ### The layout of a frame (R171) -/

/-- A frame being collected is complete when its LEN and the LEN + 2 bytes after it have arrived. -/
theorem frameComplete_iff {bytes : List Byte} :
    frameComplete bytes = true ↔ ∃ len, bytes[4]? = some len ∧ bytes.length = len.toNat + 7 := by
  unfold frameComplete
  split
  · rename_i a b c d len rest
    simp
  · rename_i h
    refine iff_of_false Bool.false_ne_true ?_
    rintro ⟨len, -, hlength⟩
    match bytes, h with
    | [], _ | [_], _ | [_, _], _ | [_, _, _], _ | [_, _, _, _], _ => simp at hlength
    | a :: b :: c :: d :: len :: rest, h => exact h a b c d len rest rfl

theorem frameComplete_of_short {bytes : List Byte}
    (h : bytes.length < 5 ∨ ∃ l, bytes[4]? = some l ∧ bytes.length < l.toNat + 7) : frameComplete bytes = false := by
  rw [← Bool.not_eq_true, frameComplete_iff]
  rintro ⟨len, hlen, hlength⟩
  obtain hshort | ⟨l, hl, hlt⟩ := h
  · omega
  · obtain rfl : l = len := Option.some.inj (hl.symm.trans hlen)
    omega

/-- The high and the low byte of a word (R171). -/
theorem bytes2_eq_iff {w : Word} {hi lo : Byte} : bytes2 w.toNat = [hi, lo] ↔ hi ++ lo = w := by
  have happend : (hi ++ lo).toNat = hi.toNat * 256 + lo.toNat := by
    rw [BitVec.toNat_append, ← Nat.shiftLeft_add_eq_or_of_lt lo.isLt, Nat.shiftLeft_eq]
  simp only [bytes2, byte, List.cons.injEq, and_true, ← BitVec.toNat_inj, BitVec.toNat_ofNat, happend]
  omega

/-! ### The judging of a frame (R171 to R173) -/

section Judge

variable {type complement tag flags len hi lo : Byte} {payload : List Byte}

theorem frameComplete_of_layout (h : payload.length = len.toNat) :
    frameComplete ([type, complement, tag, flags, len] ++ payload ++ [hi, lo]) = true :=
  frameComplete_iff.2 ⟨len, rfl, by simp [h]⟩

theorem crcChecks_iff {body : List Byte} : crcChecks (body ++ [hi, lo]) = true ↔ hi ++ lo = crc body := by
  have hlength : (body ++ [hi, lo]).length - 2 = body.length := by simp
  rw [crcChecks, hlength, List.take_left, List.drop_left, decide_eq_true_iff, bytes2_eq_iff]

variable {s : State} {f : Feed} {body : List Byte}

theorem State.judgeFrame_of_badCrc (h : hi ++ lo ≠ crc body) :
    s.judgeFrame f (body ++ [hi, lo]) = s.setReceiver f .waiting :=
  if_neg fun hcheck => h (crcChecks_iff.1 hcheck)

variable (hbody : body = [type, complement, tag, flags, len] ++ payload)
include hbody

theorem State.judgeFrame_of_badComplement (h : hi ++ lo = crc body) (hc : complement ≠ ~~~type) :
    s.judgeFrame f (body ++ [hi, lo]) = s.heardFrame f := by
  refine (if_pos (crcChecks_iff.2 h)).trans ?_
  subst hbody
  exact if_neg hc

theorem State.judgeFrame_of_good (h : hi ++ lo = crc body) (hc : complement = ~~~type) :
    s.judgeFrame f (body ++ [hi, lo]) = s.takeFrame f fun t => t.dispatchFrame f tag type payload := by
  refine (if_pos (crcChecks_iff.2 h)).trans ?_
  subst hbody
  refine (if_pos hc).trans ?_
  have htake : (payload ++ [hi, lo]).take ((payload ++ [hi, lo]).length - 2) = payload := by
    rw [show (payload ++ [hi, lo]).length - 2 = payload.length by simp, List.take_left]
  exact congrArg (fun p => s.takeFrame f fun t => t.dispatchFrame f tag type p) htake

end Judge

/-! ### A code group at the receiver (R170, R171, R174) -/

section Symbols

variable {s : State} {f : Feed}

theorem exec_symbolReceived_waiting (h : (s.clc.get f).receiver = .waiting) {g : CodeGroup} (hstart : g ≠ .startSym)
    (hinvalid : g ≠ .invalid) : exec (.symbolReceived f g) s = .next (s.validSymbol f) := by
  show execSymbolReceived f g s = _
  simp only [execSymbolReceived, if_neg hinvalid, State.validSymbol_receiver, h, if_neg hstart]

theorem exec_symbolReceived_collecting {bytes : List Byte} (h : (s.clc.get f).receiver = .collecting bytes)
    (g : CodeGroup) :
    exec (.symbolReceived f g) s = .next ((if g = .invalid then s else s.validSymbol f).collect f bytes g) := by
  have hreceiver : ((if g = .invalid then s else s.validSymbol f).clc.get f).receiver = .collecting bytes := by
    split
    · exact h
    · rw [State.validSymbol_receiver, h]
  show execSymbolReceived f g s = _
  simp only [execSymbolReceived, hreceiver]

theorem exec_symbolReceived_start :
    exec (.symbolReceived f .startSym) s = .next ((s.validSymbol f).setReceiver f (.collecting [])) := by
  cases h : (s.clc.get f).receiver with
  | waiting =>
    show execSymbolReceived f .startSym s = _
    simp [execSymbolReceived, State.validSymbol_receiver, h]
  | collecting bytes => exact exec_symbolReceived_collecting h .startSym

theorem exec_symbolReceived_invalid :
    exec (.symbolReceived f .invalid) s = .next (s.setReceiver f .waiting) := by
  cases h : (s.clc.get f).receiver with
  | waiting =>
    show execSymbolReceived f .invalid s = _
    simp [execSymbolReceived, h, State.setReceiver_self s f h]
  | collecting bytes => exact exec_symbolReceived_collecting h .invalid

theorem exec_symbolReceived_byte {bytes : List Byte} (h : (s.clc.get f).receiver = .collecting bytes)
    (hshort : frameComplete bytes = false) (b : Byte) :
    exec (.symbolReceived f (.data b)) s = .next ((s.validSymbol f).setReceiver f (.collecting (bytes ++ [b]))) := by
  rw [exec_symbolReceived_collecting h]
  exact congrArg Host.Outcome.next (if_neg (Bool.not_eq_true _ ▸ hshort))

theorem exec_symbolReceived_end {bytes : List Byte} (h : (s.clc.get f).receiver = .collecting bytes)
    (hcomplete : frameComplete bytes = true) :
    exec (.symbolReceived f .endSym) s = .next ((s.validSymbol f).judgeFrame f bytes) := by
  rw [exec_symbolReceived_collecting h]
  exact congrArg Host.Outcome.next (if_pos hcomplete)

end Symbols

/-! ### The CRC (R172) -/

theorem crcBit_eq (r : Word) (b : Bool) :
    crcBit r b = if r.getLsbD 15 = b then r <<< 1 else (r <<< 1) ^^^ 0x1021 := by
  rw [crcBit, show r.msb = r.getLsbD 15 from rfl]
  cases r.getLsbD 15 <;> cases b <;> rfl

theorem crc_append_byte (bytes : List Byte) (b : Byte) : crc (bytes ++ [b]) = crcByte (crc bytes) b :=
  List.foldl_append ..

/-- The register after the eight bits of a byte, most significant first. -/
theorem crcByte_of_bits {b : Byte} {reg : Nat → Word}
    (h : ∀ i < 8, reg (i + 1) = crcBit (reg i) (b.getLsbD (7 - i))) : crcByte (reg 0) b = reg 8 := by
  rw [h 7 (by decide), h 6 (by decide), h 5 (by decide), h 4 (by decide), h 3 (by decide), h 2 (by decide),
    h 1 (by decide), h 0 (by decide)]
  rfl

/-! ### A whole frame received (R171) -/

theorem State.receiveAll_cons {s u : State} {f : Feed} {g : CodeGroup} (h : exec (.symbolReceived f g) s = .next u)
    (rest : List CodeGroup) : s.receiveAll f (g :: rest) = u.receiveAll f rest := by
  rw [State.receiveAll, List.foldl_cons, h]
  rfl

/-- Cycle link f while it collects: its deadline is that of a valid group of this tick. -/
def State.collected (s : State) (f : Feed) (bytes : List Byte) : State :=
  (s.validSymbol f).setReceiver f (.collecting bytes)

theorem State.collected_receiver (s : State) (f : Feed) (bytes : List Byte) :
    ((s.collected f bytes).clc.get f).receiver = .collecting bytes := by
  rw [State.collected, State.setReceiver_get]

theorem State.validSymbol_collected (s : State) (f : Feed) (bytes : List Byte) :
    (s.collected f bytes).validSymbol f = s.collected f bytes := by
  rw [State.collected, State.validSymbol_setReceiver, State.validSymbol_validSymbol]

theorem State.heardFrame_collected (s : State) (f : Feed) (bytes : List Byte) :
    (s.collected f bytes).heardFrame f = s.heardFrame f := by
  rw [State.collected, State.heardFrame_setReceiver, State.heardFrame_validSymbol]

/-- The bytes of a frame that are not all of it are not complete, so each one that follows joins them. -/
theorem State.receiveAll_bytes {s : State} {f : Feed} {rest : List CodeGroup} (later : List Byte) :
    ∀ first : List Byte, (∀ n < later.length, frameComplete (first ++ later.take n) = false) →
      (s.collected f first).receiveAll f (later.map .data ++ rest) =
        (s.collected f (first ++ later)).receiveAll f rest := by
  induction later with
  | nil => simp
  | cons b later ih =>
    intro first hshort
    have hbyte := exec_symbolReceived_byte (s.collected_receiver f first) (by simpa using hshort 0 (by simp)) b
    have hnext : ((s.collected f first).validSymbol f).setReceiver f (.collecting (first ++ [b])) =
        s.collected f (first ++ [b]) := by
      rw [State.validSymbol_collected, State.collected, State.setReceiver_setReceiver]
      rfl
    have hlater := ih (first ++ [b]) fun n hn => by simpa using hshort (n + 1) (by simpa using hn)
    rw [hnext] at hbyte
    simpa using (State.receiveAll_cons hbyte _).trans hlater

theorem OutFrame.lineBytes_eq (x : OutFrame) :
    x.lineBytes = x.body ++ [byte ((crc x.body).toNat / 256), byte (crc x.body).toNat] := rfl

theorem OutFrame.lineBytes_short (x : OutFrame) (h : x.payload.length ≤ 255) {n : Nat} (hn : n < x.lineBytes.length) :
    frameComplete (x.lineBytes.take n) = false := by
  have hlength : x.lineBytes.length = x.payload.length + 7 := by simp [OutFrame.lineBytes, OutFrame.body, bytes2]
  refine frameComplete_of_short ?_
  by_cases h5 : n < 5
  · exact .inl (by simp; omega)
  · refine .inr ⟨byte x.payload.length, ?_, ?_⟩
    · rw [List.getElem?_take_of_lt (by omega)]
      rfl
    · simp [byte]
      omega

theorem State.takeFrame_collected (s : State) (f : Feed) (bytes : List Byte) (owner : State → State) :
    (s.collected f bytes).takeFrame f owner = s.takeFrame f owner := by
  rw [State.takeFrame, State.heardFrame_collected, State.takeFrame]

theorem State.receiveAll_frame (s : State) (f : Feed) (x : OutFrame) (h : x.payload.length ≤ 255) :
    s.receiveAll f ([.startSym] ++ x.lineBytes.map .data ++ [.endSym]) =
      s.takeFrame f fun t => t.dispatchFrame f x.tag x.type x.payload := by
  have hstart : s.receiveAll f (.startSym :: (x.lineBytes.map .data ++ [.endSym])) =
      (s.collected f []).receiveAll f (x.lineBytes.map .data ++ [.endSym]) :=
    State.receiveAll_cons exec_symbolReceived_start _
  have hbytes : (s.collected f []).receiveAll f (x.lineBytes.map .data ++ [.endSym]) =
      (s.collected f x.lineBytes).receiveAll f [.endSym] :=
    State.receiveAll_bytes x.lineBytes [] fun n hn => x.lineBytes_short h hn
  have hcomplete : frameComplete x.lineBytes = true :=
    frameComplete_of_layout (len := byte x.payload.length) (by simp [byte]; omega)
  have hend := exec_symbolReceived_end (s.collected_receiver f x.lineBytes) hcomplete
  have hjudge : (s.collected f x.lineBytes).judgeFrame f x.lineBytes =
      (s.collected f x.lineBytes).takeFrame f fun t => t.dispatchFrame f x.tag x.type x.payload :=
    State.judgeFrame_of_good rfl (bytes2_eq_iff.1 rfl) rfl
  rw [State.validSymbol_collected, hjudge, State.takeFrame_collected] at hend
  exact hstart.trans (hbytes.trans (State.receiveAll_cons hend []))

/-- Settles O58. -/
theorem receivedSymbolsSpellTheFrame : Obligations.ReceivedSymbolsSpellTheFrame := by
  refine ⟨?_, fun f s bytes hr => ⟨fun hshort => ?_, ?_⟩, ?_, ?_,
    fun f s x hx => congrArg Host.Outcome.next (s.receiveAll_frame f x hx).symm⟩
  · rintro f s _ up rfl hdown hup
    have valid (r : Receiver) : (s.validSymbol f).setReceiver f r =
        { s with clc := s.clc.set f { s.clc.get f with receiver := r, link := up } } := by
      rw [State.validSymbol_eq hdown hup]
      simp [State.setReceiver, State.setClc]
    refine ⟨fun g hr hstart hinvalid => ?_, ?_, exec_symbolReceived_invalid, fun bytes b hr hshort => ?_⟩
    · exact (exec_symbolReceived_waiting hr hstart hinvalid).trans
        (congrArg Host.Outcome.next (State.validSymbol_eq hdown hup))
    · exact exec_symbolReceived_start.trans (congrArg Host.Outcome.next (valid (.collecting [])))
    · exact (exec_symbolReceived_byte hr (frameComplete_of_short hshort) b).trans
        (congrArg Host.Outcome.next (valid (.collecting (bytes ++ [b]))))
  · refine ⟨?_, exec_symbolReceived_collecting hr .idleSym, exec_symbolReceived_start, exec_symbolReceived_invalid⟩
    refine (exec_symbolReceived_collecting hr .endSym).trans (congrArg Host.Outcome.next ?_)
    exact if_neg (by simp [frameComplete_of_short hshort])
  · rintro type complement tag flags len hi lo payload body hlength hbody rfl
    have hcomplete : frameComplete (body ++ [hi, lo]) = true := hbody ▸ frameComplete_of_layout hlength
    have judged {t : State} (h : (s.validSymbol f).judgeFrame f (body ++ [hi, lo]) = t) :
        exec (.symbolReceived f .endSym) s = .next t :=
      (exec_symbolReceived_end hr hcomplete).trans (congrArg Host.Outcome.next h)
    refine ⟨fun hcrc => judged (State.judgeFrame_of_badCrc hcrc), fun hcrc hc => judged ?_, fun hcrc hc => judged ?_,
      exec_symbolReceived_collecting hr .idleSym, exec_symbolReceived_start, exec_symbolReceived_invalid, fun b => ?_⟩
    · rw [State.judgeFrame_of_badComplement hbody hcrc hc, State.heardFrame_validSymbol]
    · rw [State.judgeFrame_of_good hbody hcrc hc, State.takeFrame, State.heardFrame_validSymbol, State.takeFrame]
    · exact (exec_symbolReceived_collecting hr (.data b)).trans (congrArg Host.Outcome.next (if_pos hcomplete))
  · intro bytes b reg h0 hreg
    refine ⟨rfl, ?_⟩
    rw [crc_append_byte, ← h0]
    exact crcByte_of_bits fun i hi => (hreg i hi).trans (crcBit_eq _ _).symm
  · rintro x _ rfl
    exact ⟨_, _, bytes2_eq_iff.1 rfl, rfl⟩

end Sys2Proof.Machine
end
